-- ==== Sys2Proof/Word.lean ====
section
/-!
DEFINITION. The word types of the core (spec/00_scope.md R9, spec/30_encoding.md R111, R119).
-/

namespace Sys2Proof

/-- A register, an address or an instruction word: `bits32` (R9). -/
abbrev Word := BitVec 32

/-- One byte of memory (R71). -/
abbrev Byte := BitVec 8

/-- A general register number, the width of `rd`, `rs1` and `rs2` (R111). -/
abbrev RegIx := BitVec 5

/-- A CSR number, `insn[31:20]` (R119, R52). -/
abbrev CsrIx := BitVec 12

end Sys2Proof
end

