-- ==== Sys2Proof/Config.lean ====
section
/-!
DEFINITION. What is fixed for the whole run (spec/00_scope.md R7, R8), the forms in which the host makes its choices
(spec/60_exceptions.md R340, spec/20_memory.md R85), and the free values that stand for choices nobody has stated
(spec/93_implementation_defined.md U5, U6, U7) and for the one result the rules leave unstated (R74, R79).
-/

namespace Sys2Proof

/-- `WFI_RESUME_PC` (R7, R283, R359). -/
inductive WfiResume where
  | next
  | self
  deriving DecidableEq, Repr

/-- `MTVAL_ON_ILLEGAL` (R7, R312). -/
inductive MtvalOnIllegal where
  | pc
  | insn
  deriving DecidableEq, Repr

/-- The explicit configuration record of R8, one field per parameter of R7 that is not fixed by the source
(XLEN is 32 and NUM_GPR is 32 in the types). -/
structure Config where
  /-- `RAM_BASE` -/
  ramBase : Word
  /-- `RAM_SIZE`, in bytes -/
  ramSize : Nat
  /-- `MMIO_LO`, the first address of the window -/
  mmioLo : Word
  /-- `MMIO_HI`, the first address past the window -/
  mmioHi : Word
  /-- `RAM_TAIL_GUARD` (R77) -/
  ramTailGuard : Bool
  /-- `FAIL_ON_ALL_FAULTS` (R320) -/
  failOnAllFaults : Bool
  /-- `WFI_RESUME_PC` (R283) -/
  wfiResume : WfiResume
  /-- `CYCLE_COMMIT_ON_EARLY_END` (R306) -/
  cycleCommitOnEarlyEnd : Bool
  /-- `MTVAL_ON_ILLEGAL` (R312) -/
  mtvalOnIllegal : MtvalOnIllegal
  /-- `RESET_PC` (R351) -/
  resetPc : Word
  /-- `DTB_ADDR` (R354) -/
  dtbAddr : Word
  deriving DecidableEq, Repr

/-- The defaults of R7. `FAIL_ON_ALL_FAULTS` has no default there: `false` here is a DESIGN CHOICE (log entry 2). -/
def Config.default : Config where
  ramBase := 0x80000000#32
  ramSize := 0x04000000
  mmioLo := 0x10000000#32
  mmioHi := 0x12000000#32
  ramTailGuard := false
  failOnAllFaults := false
  wfiResume := .next
  cycleCommitOnEarlyEnd := false
  mtvalOnIllegal := .pc
  resetPc := 0x80000000#32
  dtbAddr := 0#32

/-- The constraints of R7, and no other: the RAM size is a multiple of 4 and at least 4, RAM ends within the address space,
and the window is disjoint from RAM. -/
def Config.ok (c : Config) : Bool :=
  c.ramSize % 4 == 0 && decide (4 ≤ c.ramSize) && decide (c.ramBase.toNat + c.ramSize ≤ 2 ^ 32)
    && (decide (c.mmioHi.toNat ≤ c.ramBase.toNat) || decide (c.ramBase.toNat + c.ramSize ≤ c.mmioLo.toNat)
      || decide (c.mmioHi.toNat ≤ c.mmioLo.toNat))

/-- The eight machine-level CSRs the core itself reads and writes (R38). -/
inductive CoreCsr where
  | mstatus
  | mie
  | mtvec
  | mscratch
  | mepc
  | mcause
  | mtval
  | mip
  deriving DecidableEq, Repr

/-- One thing the host may do to the processor record or to RAM before a step call (R340: "every field of the processor
state and RAM"). -/
inductive HostEdit where
  | setX (r : RegIx) (v : Word)
  | setPc (v : Word)
  | setCsr (k : CoreCsr) (v : Word)
  | setCycle (v : BitVec 64)
  | setTimer (v : BitVec 64)
  | setTimermatch (v : BitVec 64)
  | setExtraflags (v : Word)
  | writeRam (a : Nat) (b : Byte)
  deriving DecidableEq, Repr

/-- What the host brings to one `StepCall(elapsedUs, count)` (R300): its edits before the call and the two inputs. -/
structure HostCall where
  edits : List HostEdit
  elapsedUs : Word
  count : Nat
  deriving DecidableEq, Repr, Inhabited

/-- What the host does in one hook call (R85, R340): the value (an MMIO load's answer, an MMIO store's intercept flag, a
host CSR's value), what an MMIO hook does to the timer counter and the match, and what a CSR hook writes into RAM. -/
structure HostReply where
  value : Word
  timer : Option (BitVec 64)
  timermatch : Option (BitVec 64)
  ram : List Host.Cell
  deriving DecidableEq, Repr, Inhabited

/-- FREE VALUE (log entry 3): the host's choice for the n-th step call that no claim has lined up (U7, R300). -/
opaque Config.hostCall : Nat → HostCall

/-- FREE VALUE (log entry 9): what the n-th fetch that runs past the end of RAM reads as its byte k. Only a `RAM_BASE` that
is no multiple of 4 allows such a fetch, and R74 states no result for it. -/
opaque Config.byteBeyondRam : Nat → Nat → Byte

/-- FREE VALUE (log entry 4): the host's choice in the n-th hook call that no claim has lined up (U5, U6, R85, R340). -/
opaque Config.hostReply : Nat → HostReply

end Sys2Proof
end

