-- ==== Sys2Proof/Machine/Memory.lean ====
section
/-!
DEFINITION. Guest RAM as plain data (spec/20_memory.md R71, R73, R74): a list of (guest address, byte), addresses strictly
rising, no zero byte listed; an unlisted address reads as 0 (R353, log entry 5). Also the region test of RAM (R71).
-/

namespace Sys2Proof.Machine

/-- The listed bytes of RAM, by guest address. -/
abbrev Memory := List Host.Cell

/-- What an unlisted address reads as (R353: "with every other byte 0"). DESIGN CHOICE for State.reset (log entry 5). -/
def unlistedByte : Byte := 0#8

/-- The byte at a guest address. -/
def readByte : Memory → Nat → Byte
  | [], _ => unlistedByte
  | (k, b) :: t, a => if k = a then b else readByte t a

/-- Lists a byte at its place. -/
def insertByte : Memory → Nat → Byte → Memory
  | [], a, v => [(a, v)]
  | (k, b) :: t, a, v =>
    if a < k then (a, v) :: (k, b) :: t
    else if a = k then (a, v) :: t
    else (k, b) :: insertByte t a v

/-- Writes one byte, keeping the canonical form: writing what an unlisted address reads as removes the entry. -/
def writeByte (m : Memory) (a : Nat) (v : Byte) : Memory :=
  if v = unlistedByte then m.filter (fun c => c.1 != a) else insertByte m a v

/-- The canonical form: addresses strictly rising, no entry equal to what an unlisted address reads as. -/
def memoryWf : Memory → Bool
  | [] => true
  | [(_, b)] => b != unlistedByte
  | (k, b) :: (k', b') :: t => b != unlistedByte && decide (k < k') && memoryWf ((k', b') :: t)

/-- `RamRead` of two bytes, least significant first (R74). -/
def readHalf (m : Memory) (a : Nat) : BitVec 16 := readByte m (a + 1) ++ readByte m a

/-- `RamRead` of four bytes, least significant first (R74). -/
def readWord (m : Memory) (a : Nat) : Word :=
  readByte m (a + 3) ++ readByte m (a + 2) ++ readByte m (a + 1) ++ readByte m a

/-- `RamWrite` of the low byte of `v` (R74). -/
def writeLow8 (m : Memory) (a : Nat) (v : Word) : Memory := writeByte m a (v.extractLsb' 0 8)

/-- `RamWrite` of the low two bytes of `v` (R74). -/
def writeLow16 (m : Memory) (a : Nat) (v : Word) : Memory :=
  writeByte (writeByte m a (v.extractLsb' 0 8)) (a + 1) (v.extractLsb' 8 8)

/-- `RamWrite` of the four bytes of `v` (R74). -/
def writeWord (m : Memory) (a : Nat) (v : Word) : Memory :=
  writeByte (writeByte (writeByte (writeByte m a (v.extractLsb' 0 8)) (a + 1) (v.extractLsb' 8 8)) (a + 2)
    (v.extractLsb' 16 8)) (a + 3) (v.extractLsb' 24 8)

/-- A guest address lies in RAM (R71). -/
def inRam (c : Config) (a : Nat) : Bool :=
  decide (c.ramBase.toNat ≤ a) && decide (a < c.ramBase.toNat + c.ramSize)

/-- The host writes bytes into guest RAM (R340, R353); what does not lie in RAM is no byte of RAM and is left out. -/
def hostWrites (c : Config) : List Host.Cell → Memory → Memory
  | [], m => m
  | (a, b) :: t, m => hostWrites c t (if inRam c a then writeByte m a b else m)

end Sys2Proof.Machine
end

