-- ==== Sys2Proof/Machine/State.lean ====
section
/-!
DEFINITION. The state of the machine (spec/10_state.md), why a step can stop, and the state after reset
(spec/70_reset_and_hazards.md R350).
-/

namespace Sys2Proof.Machine

/-- The exceptions of R311 (the timer interrupt is no exception: R315, R320). -/
inductive Exc where
  | instrAddressMisaligned
  | instrAccessFault
  | illegalInstruction
  | breakpoint
  | loadAddressMisaligned
  | loadAccessFault
  | storeAddressMisaligned
  | storeAccessFault
  | ecallFromU
  | ecallFromM
  deriving DecidableEq, Repr

/-- The run status, outside the processor record (R56). -/
inductive RunStatus where
  | running
  | aborted (cause : Exc)
  | hostStopped (flag : Word)
  deriving DecidableEq, Repr

/-- The outcome of a step call, which the host receives (R307). -/
inductive CallOutcome where
  | normal
  | sleeping
  | aborted (cause : Exc)
  | hostStopped (flag : Word)
  deriving DecidableEq, Repr

/-- One entry of the run's event history (R85): a hook call with its arguments (R340), or a step call's outcome (R307). -/
inductive HostEvent where
  | mmioLoad (addr : Word)
  | mmioStore (addr v : Word)
  | csrRead (n : CsrIx)
  | csrWrite (n : CsrIx) (v : Word)
  | exception (insn : Word) (cause : Exc)
  | returned (o : CallOutcome)
  deriving DecidableEq, Repr

/-- The machine, as plain data. -/
structure State where
  /-- the configuration record, fixed for the run (R7, R8) -/
  cfg : Config
  /-- x1 to x31, in order; x0 is no storage cell (R30, R31) -/
  xregs : Vector Word 31
  /-- the program counter (R33) -/
  pc : Word
  /-- 0x300 (R39) -/
  mstatus : Word
  /-- 0x304 (R40) -/
  mie : Word
  /-- 0x344 (R41) -/
  mip : Word
  /-- 0x305 (R42) -/
  mtvec : Word
  /-- 0x340 (R43) -/
  mscratch : Word
  /-- 0x341 (R43) -/
  mepc : Word
  /-- 0x342 (R43) -/
  mcause : Word
  /-- 0x343 (R43) -/
  mtval : Word
  /-- the committed cycle count, `cycleh` and `cyclel` as one value (R44, R51) -/
  cycle : BitVec 64
  /-- the timer counter, `timerh` and `timerl` as one value (R49, R51) -/
  timer : BitVec 64
  /-- the timer match, `timermatchh` and `timermatchl` as one value (R50, R51) -/
  timermatch : BitVec 64
  /-- `extraflags[1:0]`: the privilege level (R46) -/
  priv : BitVec 2
  /-- `extraflags[2]`: the wait-for-interrupt latch (R47) -/
  wfi : Bool
  /-- `extraflags[31:3]`: the reservation (R48) -/
  resv : BitVec 29
  /-- guest RAM (R71) -/
  mem : Memory
  /-- the run status (R56) -/
  status : RunStatus
  /-- attempts left in the step call in progress; none between calls (R300, R305) -/
  call : Option Nat
  /-- the running cycle value `c` of the step call (R300, R305) -/
  runCycle : Word
  /-- `insn`, the word the current attempt fetched, 0 after a fetch fault (R300) -/
  insn : Word
  /-- the event history, oldest first (R85, R307) -/
  events : List HostEvent
  /-- MODEL'S OWN: step-call inputs a claim has lined up (log entry 3) -/
  calls : List HostCall
  /-- MODEL'S OWN: hook answers a claim has lined up (log entry 4) -/
  replies : List HostReply
  /-- MODEL'S OWN: how many free values were drawn (log entries 3, 4 and 9) -/
  draws : Nat
  deriving DecidableEq, Repr

/-- Why the machine stops. No meaning of an instruction raises one. -/
inductive Fault where
  /-- Raised by `step` when the run has ended (Aborted or HostStopped): "no further step call is modelled" (R56), treated as
  stuck (U9). SAFE: nothing is proved of a machine past its end. -/
  | runEnded
  /-- Raised by `step` when the configuration breaks a constraint of R7: no session is constructed with it (log entry 17).
  SAFE: nothing is proved of such a machine's steps. -/
  | configInvalid
  deriving DecidableEq, Repr

/-- Why an instruction has no meaning. -/
inductive Refusal where
  /-- Raised by an arm of `exec` whose instruction has no meaning yet; no arm raises it now. SAFE. -/
  | notModelled (mnemonic : String)
  deriving DecidableEq, Repr

/-- What a step answers. -/
abbrev Answer := Host.Outcome State Fault Refusal

/-- The state right after reset (R350 to R354) for a configuration and the RAM image the host loaded (R353). -/
def State.resetWith (cfg : Config) (image : List Host.Cell) : State where
  cfg := cfg
  xregs := (Vector.replicate 31 0#32).setIfInBounds 10 cfg.dtbAddr
  pc := cfg.resetPc
  mstatus := 0#32
  mie := 0#32
  mip := 0#32
  mtvec := 0#32
  mscratch := 0#32
  mepc := 0#32
  mcause := 0#32
  mtval := 0#32
  cycle := 0#64
  timer := 0#64
  timermatch := 0#64
  priv := 3#2
  wfi := false
  resv := 0#29
  mem := hostWrites cfg image []
  status := .running
  call := none
  runCycle := 0#32
  insn := 0#32
  events := []
  calls := []
  replies := []
  draws := 0

/-- The machine right after reset: the default configuration of R7, no image loaded. -/
def State.reset : State := State.resetWith Config.default []

end Sys2Proof.Machine
end

