-- ==== Sys2Proof/Machine/Flags.lean ====
section
/-!
DEFINITION. The core has no status flags (spec/10_state.md R36, R37). What stands here are the bits it reads and writes in
`mstatus`, `mie` and `mip` (R39 to R41), the two ways it restacks `mstatus` (spec/60_exceptions.md R316,
spec/46_system_csr.md R275), the cause codes (R311), and `extraflags` as one word (R45).
-/

namespace Sys2Proof.Machine

/-- `mstatus.MIE`, bit 3 (R39). -/
def mieBit (mstatus : Word) : Bool := mstatus.getLsbD 3

/-- `mstatus.MPIE`, bit 7 (R39). -/
def mpieBit (mstatus : Word) : Bool := mstatus.getLsbD 7

/-- `mstatus.MPP`, bits 12:11 (R39). -/
def mppField (mstatus : Word) : BitVec 2 := mstatus.extractLsb' 11 2

/-- `mie.MTIE`, bit 7 (R40). -/
def mtieBit (mie : Word) : Bool := mie.getLsbD 7

/-- `mip.MTIP`, bit 7 (R41). -/
def mtipBit (mip : Word) : Bool := mip.getLsbD 7

/-- `mip` with MTIP set or cleared, every other bit kept (R302, R41). -/
def withMtip (mip : Word) (b : Bool) : Word :=
  if b then mip ||| 0x80#32 else mip &&& ~~~0x80#32

/-- `mstatus` on trap entry: MPIE is the old MIE, MPP the old privilege, every other bit 0 (R316). -/
def trapMstatus (mstatus : Word) (priv : BitVec 2) : Word :=
  (if mieBit mstatus then 0x80#32 else 0#32) ||| (priv.setWidth 32 <<< 11)

/-- `mstatus` after MRET: MIE is the old MPIE, MPP the privilege before, MPIE 1, every other bit 0 (R275). -/
def mretMstatus (mstatus : Word) (priv : BitVec 2) : Word :=
  (if mpieBit mstatus then 0x8#32 else 0#32) ||| (priv.setWidth 32 <<< 11) ||| 0x80#32

/-- The `mcause` code of an exception (R311). -/
def excCode : Exc → Word
  | .instrAddressMisaligned => 0#32
  | .instrAccessFault => 1#32
  | .illegalInstruction => 2#32
  | .breakpoint => 3#32
  | .loadAddressMisaligned => 4#32
  | .loadAccessFault => 5#32
  | .storeAddressMisaligned => 6#32
  | .storeAccessFault => 7#32
  | .ecallFromU => 8#32
  | .ecallFromM => 11#32

/-- The `mcause` code of the machine timer interrupt (R304, R311). -/
def timerInterruptCode : Word := 0x80000007#32

/-- `extraflags` as one word (R45). -/
def extraflagsOf (priv : BitVec 2) (wfi : Bool) (resv : BitVec 29) : Word :=
  resv ++ BitVec.ofBool wfi ++ priv

end Sys2Proof.Machine
end

