-- ==== Sys2Proof/Machine/Ops.lean ====
section
/-!
DEFINITION. The named operations every meaning is written over: registers (spec/10_state.md R31), the arbiter and the data
accesses (spec/20_memory.md R75 to R83), the host hooks (R85, spec/60_exceptions.md R340), the end of an attempt and of a
step call (R305 to R307), taking an exception (R310, R316, R320), the CSR access functions (spec/46_system_csr.md R276),
and the start of a step call (R300 to R304).
-/

namespace Sys2Proof.Machine

/-! ## Registers -/

/-- `x[r]`; x0 is always 0 (R31). -/
def State.x (s : State) (r : RegIx) : Word :=
  if r = 0#5 then 0#32 else (s.xregs[r.toNat - 1]?).getD 0#32

/-- `x[r] <- v`; discarded for x0 (R31). -/
def State.setX (s : State) (r : RegIx) (v : Word) : State :=
  { s with xregs := if r = 0#5 then s.xregs else s.xregs.setIfInBounds (r.toNat - 1) v }

/-- `pc <- target` (R34). -/
def State.setPc (s : State) (target : Word) : State := { s with pc := target }

/-- The instruction retires with the default target: `pc <- pc + 4` (R11, R34). -/
def State.advance (s : State) : State := s.setPc (s.pc + 4#32)

/-- The instruction retires writing one register: `x[rd] <- v ; pc <- pc + 4` (R11). -/
def State.retire (s : State) (rd : RegIx) (v : Word) : State := (s.setX rd v).advance

/-- `extraflags` as the host sees it (R45). -/
def State.extraflags (s : State) : Word := extraflagsOf s.priv s.wfi s.resv

/-! ## The end of a step call, and taking an exception -/

/-- Adds one entry to the event history (R85). -/
def State.log (s : State) (e : HostEvent) : State := { s with events := s.events ++ [e] }

/-- `CommitCycle(c)`: `c` becomes the low half, and the high half is increased when the low half wrapped (R306). -/
def committed (cycle : BitVec 64) (c : Word) : BitVec 64 :=
  let high := cycle.extractLsb' 32 32
  (if c.toNat < (cycle.extractLsb' 0 32).toNat then high + 1#32 else high) ++ c

/-- `CommitCycle` of the call's running cycle value (R306). -/
def State.commitCycle (s : State) : State := { s with cycle := committed s.cycle s.runCycle }

/-- The step call returns to the host with an outcome (R307). -/
def State.returnCall (s : State) (o : CallOutcome) : State :=
  { s with call := none, events := s.events ++ [.returned o] }

/-- The step call commits its cycles and returns Normal (R306). -/
def State.returnNormal (s : State) : State := s.commitCycle.returnCall .normal

/-- `TakeTrap(cause, epc, tval)`: the ONE trap entry, for exceptions and the interrupt alike (R316). -/
def State.takeTrap (s : State) (cause epc tval : Word) : State :=
  { s with
    mcause := cause
    mtval := tval
    mepc := epc
    mstatus := trapMstatus s.mstatus s.priv
    pc := s.mtvec
    priv := 3#2 }

/-- The run ends: the fault policy aborts it, no trap CSR written, no cycle committed (R320). -/
def State.abort (s : State) (e : Exc) : State :=
  { s.returnCall (.aborted e) with status := .aborted e }

/-- The exception hook is notified, the trap is taken at this instruction's address, and the call ends (R320, R316, R305). -/
def State.trapHere (s : State) (e : Exc) (tval : Word) : State :=
  ((s.log (.exception s.insn e)).takeTrap (excCode e) s.pc tval).returnNormal

/-- `raise e(tval)`: no effect of the instruction itself, then the fault policy (R310, R320). -/
def State.raise (s : State) (e : Exc) (tval : Word) : State :=
  if s.cfg.failOnAllFaults then s.abort e else s.trapHere e tval

/-- The return from an exception, MRET (R275, R321). -/
def State.trapReturn (s : State) : State :=
  { s with
    mstatus := mretMstatus s.mstatus s.priv
    priv := mppField s.mstatus
    pc := s.mepc }

/-- WFI's end of the call: Sleeping, the cycles committed only under `CYCLE_COMMIT_ON_EARLY_END` (R300, R306). -/
def State.sleep (s : State) : State :=
  (if s.cfg.cycleCommitOnEarlyEnd then s.commitCycle else s).returnCall .sleeping

/-- A non-zero store intercept: the store has retired, the call and the run end (R83, R307, R56). -/
def State.hostStop (s : State) (flag : Word) : State :=
  { s.returnCall (.hostStopped flag) with status := .hostStopped flag }

/-! ## The host's answers -/

/-- What the host does in the next hook call: the answer a claim has lined up, else a free value (log entry 4). -/
def State.reply (s : State) : HostReply := s.replies.headD (Config.hostReply s.draws)

/-- The answer has been used. -/
def State.popReply (s : State) : State :=
  { s with
    replies := s.replies.tail
    draws := if s.replies.isEmpty then s.draws + 1 else s.draws }

/-- What an MMIO hook may do: change the timer counter and the match (R85). -/
def State.applyDevice (s : State) (r : HostReply) : State :=
  { s with timer := r.timer.getD s.timer, timermatch := r.timermatch.getD s.timermatch }

/-- What a CSR hook may do: write guest RAM (R340). -/
def State.applyRam (s : State) (r : HostReply) : State :=
  { s with mem := hostWrites s.cfg r.ram s.mem }

/-- The state after one MMIO hook call (R85). -/
def State.mmioHook (s : State) (e : HostEvent) : State := ((s.log e).popReply).applyDevice s.reply

/-- The state after one CSR hook call (R340). -/
def State.csrHook (s : State) (e : HostEvent) : State := ((s.log e).popReply).applyRam s.reply

/-! ## The arbiter and the data accesses -/

/-- The widths of a data access (R84). -/
inductive Width where
  | byte
  | half
  | word
  deriving DecidableEq, Repr

/-- The bytes of an access (R84). -/
def widthBytes : Width → Nat
  | .byte => 1
  | .half => 2
  | .word => 4

/-- What the arbiter makes of an access (R75). -/
inductive Region where
  | misaligned
  | ram (off : Word)
  | mmio
  | invalid
  deriving DecidableEq, Repr

/-- `Classify(addr, n)`, tested in the order of R75; R77 is the tail guard. -/
def classify (c : Config) (a : Word) (w : Width) : Region :=
  let off := a - c.ramBase
  if a.toNat % widthBytes w ≠ 0 then .misaligned
  else if off.toNat + widthBytes w ≤ c.ramSize ∧ ¬(c.ramTailGuard = true ∧ c.ramSize ≤ off.toNat + 3) then .ram off
  else if c.mmioLo.toNat ≤ a.toNat ∧ a.toNat < c.mmioHi.toNat then .mmio
  else .invalid

/-- `RamRead` extended to 32 bits (R80). -/
def ramLoad (m : Memory) (a : Word) (w : Width) (signed : Bool) : Word :=
  match w with
  | .byte => if signed then (readByte m a.toNat).signExtend 32 else (readByte m a.toNat).setWidth 32
  | .half => if signed then (readHalf m a.toNat).signExtend 32 else (readHalf m a.toNat).setWidth 32
  | .word => readWord m a.toNat

/-- `RamWrite` of the low bytes of `v` (R74, R81). -/
def ramStore (m : Memory) (a : Word) (w : Width) (v : Word) : Memory :=
  match w with
  | .byte => writeLow8 m a.toNat v
  | .half => writeLow16 m a.toNat v
  | .word => writeWord m a.toNat v

/-- A load of `rd` from `a`: `x[rd] <- MemRead(a, n, signed) ; pc <- pc + 4`, or its exception (R80, R82, R160). -/
def State.load (s : State) (w : Width) (signed : Bool) (rd : RegIx) (a : Word) : Answer :=
  match classify s.cfg a w with
  | .misaligned => .next (s.raise .loadAddressMisaligned a)
  | .ram _ => .next (s.retire rd (ramLoad s.mem a w signed))
  | .mmio => .next ((s.mmioHook (.mmioLoad a)).retire rd s.reply.value)
  | .invalid => .next (s.raise .loadAccessFault a)

/-- The MMIO store: the hook gets the full value; a non-zero flag ends the run after the store retires (R83). -/
def State.mmioStore (s : State) (a v : Word) : State :=
  let t := (s.mmioHook (.mmioStore a v)).advance
  if s.reply.value = 0#32 then t else t.hostStop s.reply.value

/-- A store of `v` at `a`: `MemWrite(a, n, v) ; pc <- pc + 4`, or its exception (R81, R83, R160). -/
def State.store (s : State) (w : Width) (a v : Word) : Answer :=
  match classify s.cfg a w with
  | .misaligned => .next (s.raise .storeAddressMisaligned a)
  | .ram _ => .next ({ s with mem := ramStore s.mem a w v }.advance)
  | .mmio => .next (s.mmioStore a v)
  | .invalid => .next (s.raise .storeAccessFault a)

/-- The address checks of every atomic, then its effect on the RAM offset (R250). -/
def State.atomic (s : State) (a : Word) (effect : Word → State) : Answer :=
  match classify s.cfg a .word with
  | .misaligned => .next (s.raise .storeAddressMisaligned a)
  | .ram off => .next (effect off)
  | .mmio => .next (s.raise .storeAccessFault a)
  | .invalid => .next (s.raise .storeAccessFault a)

/-- Fetch-and-op: `old <- RamRead ; RamWrite(op old x[rs2]) ; x[rd] <- old ; pc <- pc + 4` (R250, R254 to R262). -/
def State.amo (s : State) (op : Word → Word → Word) (rd rs1 rs2 : RegIx) : Answer :=
  s.atomic (s.x rs1) fun _ =>
    let old := readWord s.mem (s.x rs1).toNat
    { s with mem := writeWord s.mem (s.x rs1).toNat (op old (s.x rs2)) }.retire rd old

/-- The reservation of a RAM offset: its low 29 bits (R251). -/
def resvOf (off : Word) : BitVec 29 := off.extractLsb' 0 29

/-! ## CSR access -/

/-- The number of `cycle` (R38). -/
def csrCycle : CsrIx := 0xc00#12

/-- Which of the core's own read-write CSRs a number names (R38, R276). -/
def coreCsr? (n : CsrIx) : Option CoreCsr :=
  match n with
  | 0x300#12 => some .mstatus
  | 0x304#12 => some .mie
  | 0x305#12 => some .mtvec
  | 0x340#12 => some .mscratch
  | 0x341#12 => some .mepc
  | 0x342#12 => some .mcause
  | 0x343#12 => some .mtval
  | 0x344#12 => some .mip
  | _ => none

/-- A core CSR's stored value (R38). -/
def State.getCsr (s : State) : CoreCsr → Word
  | .mstatus => s.mstatus
  | .mie => s.mie
  | .mtvec => s.mtvec
  | .mscratch => s.mscratch
  | .mepc => s.mepc
  | .mcause => s.mcause
  | .mtval => s.mtval
  | .mip => s.mip

/-- A core CSR stores all 32 bits as written (R38). -/
def State.setCsr (s : State) (k : CoreCsr) (v : Word) : State :=
  match k with
  | .mstatus => { s with mstatus := v }
  | .mie => { s with mie := v }
  | .mtvec => { s with mtvec := v }
  | .mscratch => { s with mscratch := v }
  | .mepc => { s with mepc := v }
  | .mcause => { s with mcause := v }
  | .mtval => { s with mtval := v }
  | .mip => { s with mip := v }

/-- The value of `CsrRead(n, c)` (R276); `runCycle` already counts the current instruction (R305). -/
def State.csrValue (s : State) (n : CsrIx) : Word :=
  match coreCsr? n with
  | some k => s.getCsr k
  | none => if n = csrCycle then s.runCycle else s.reply.value

/-- The state after `CsrRead(n, c)`: a hook call for a host CSR, no change otherwise (R276). -/
def State.csrRead (s : State) (n : CsrIx) : State :=
  match coreCsr? n with
  | some _ => s
  | none => if n = csrCycle then s else s.csrHook (.csrRead n)

/-- The state after `CsrWrite(n, v)`: the core's own CSR, or a hook call, 0xC00 included (R276). -/
def State.csrWrite (s : State) (n : CsrIx) (v : Word) : State :=
  match coreCsr? n with
  | some k => s.setCsr k v
  | none => s.csrHook (.csrWrite n v)

/-- Every CSR instruction: one read, one write of `f old`, `x[rd] <- old`, `pc <- pc + 4` (R277 to R282, D20). -/
def State.csrOp (s : State) (f : Word → Word) (rd : RegIx) (n : CsrIx) : Answer :=
  .next (((s.csrRead n).csrWrite n (f (s.csrValue n))).retire rd (s.csrValue n))

/-! ## The start of a step call -/

/-- One edit of the host before a call (R340). -/
def State.edit (s : State) : HostEdit → State
  | .setX r v => s.setX r v
  | .setPc v => s.setPc v
  | .setCsr k v => s.setCsr k v
  | .setCycle v => { s with cycle := v }
  | .setTimer v => { s with timer := v }
  | .setTimermatch v => { s with timermatch := v }
  | .setExtraflags v =>
    { s with priv := v.extractLsb' 0 2, wfi := v.getLsbD 2, resv := v.extractLsb' 3 29 }
  | .writeRam a b => { s with mem := hostWrites s.cfg [(a, b)] s.mem }

/-- The timer comparison of R302. -/
def timerFires (timer timermatch : BitVec 64) : Bool :=
  timermatch != 0#64 && decide (timermatch.toNat ≤ timer.toNat)

/-- The timer advances by the elapsed microseconds; then MTIP is recomputed, and a true comparison clears the WFI latch
(R301, R302). -/
def State.tick (s : State) (elapsedUs : Word) : State :=
  let timer := s.timer + elapsedUs.setWidth 64
  let fires := timerFires timer s.timermatch
  { s with
    timer := timer
    mip := withMtip s.mip fires
    wfi := if fires then false else s.wfi }

/-- The timer interrupt is taken exactly when MTIP, MTIE and MIE are all 1 (R304). -/
def State.interruptTaken (s : State) : Bool := mtipBit s.mip && mtieBit s.mie && mieBit s.mstatus

/-- The running cycle value starts at the low half of the committed count (R300). -/
def State.startCycle (s : State) : State := { s with runCycle := s.cycle.extractLsb' 0 32 }

/-- `StepCall(elapsedUs, count)` up to its first instruction (R300 to R304): it returns Sleeping at the WFI gate, takes the
timer interrupt and returns Normal, or enters the loop with `count` attempts left. -/
def State.stepCall (s : State) (elapsedUs : Word) (count : Nat) : State :=
  let t := s.tick elapsedUs
  if t.wfi then t.returnCall .sleeping
  else if t.interruptTaken then (t.startCycle.takeTrap timerInterruptCode t.pc 0#32).returnNormal
  else { t.startCycle with call := some count }

/-- The inputs of the next step call: those a claim has lined up, else a free value (log entry 3). -/
def State.nextCall (s : State) : HostCall := s.calls.headD (Config.hostCall s.draws)

/-- The inputs have been used. -/
def State.popCall (s : State) : State :=
  { s with
    calls := s.calls.tail
    draws := if s.calls.isEmpty then s.draws + 1 else s.draws }

/-- The host makes its next call: its edits in order, then the call (R340, R300). -/
def State.beginCall (s : State) : State :=
  (s.nextCall.edits.foldl State.edit s.popCall).stepCall s.nextCall.elapsedUs s.nextCall.count

end Sys2Proof.Machine
end

