-- ==== Sys2Proof/Machine/Operands.lean ====
section
/-!
DEFINITION. The operand forms of the instruction rules: base plus displacement (spec/41_loads_stores.md R160), shift amounts
(spec/30_encoding.md R118), the 5-bit CSR immediate (R119), and comparison results (spec/42_integer_alu.md R180).
-/

namespace Sys2Proof.Machine

/-- `ea = x[rs1] + imm` modulo 2^32 (R160). -/
def State.ea (s : State) (rs1 : RegIx) (imm : Word) : Word := s.x rs1 + imm

/-- The register shift amount, `x[rs2][4:0]` (R118). -/
def shiftAmount (v : Word) : Nat := (v.extractLsb' 0 5).toNat

/-- `zext_5(zimm)` (R119). -/
def zextZimm (z : BitVec 5) : Word := z.setWidth 32

/-- 1 for true, 0 for false: the result of a set-less-than (R36, R180). -/
def boolWord (b : Bool) : Word := if b then 1#32 else 0#32

/-- `s(a) < s(b)` (R9). -/
def ltSigned (a b : Word) : Bool := decide (a.toInt < b.toInt)

/-- `u(a) < u(b)` (R9). -/
def ltUnsigned (a b : Word) : Bool := decide (a.toNat < b.toNat)

end Sys2Proof.Machine
end

