-- ==== Sys2Proof/Machine/Alu.lean ====
section
/-!
DEFINITION. Integer register-immediate and register-register operations (spec/42_integer_alu.md R180 to R200).
-/

namespace Sys2Proof.Machine

/-- Register-immediate: `x[rd] <- op x[rs1] imm ; pc <- pc + 4` (R180). -/
def State.aluImm (s : State) (op : Word → Word → Word) (rd rs1 : RegIx) (imm : Word) : Answer :=
  .next (s.retire rd (op (s.x rs1) imm))

/-- Immediate shift: `x[rd] <- op x[rs1] shamt ; pc <- pc + 4` (R118, R180). -/
def State.shiftImm (s : State) (op : Word → Nat → Word) (rd rs1 : RegIx) (shamt : BitVec 5) : Answer :=
  .next (s.retire rd (op (s.x rs1) shamt.toNat))

/-- Register-register: `x[rd] <- op x[rs1] x[rs2] ; pc <- pc + 4` (R180). -/
def State.aluReg (s : State) (op : Word → Word → Word) (rd rs1 rs2 : RegIx) : Answer :=
  .next (s.retire rd (op (s.x rs1) (s.x rs2)))

/-- Left shift by the low five bits of the second operand (R192). -/
def shl (a b : Word) : Word := a <<< shiftAmount b

/-- Logical right shift by the low five bits of the second operand (R196). -/
def shrLogical (a b : Word) : Word := a >>> shiftAmount b

/-- Arithmetic right shift by the low five bits of the second operand (R197). -/
def shrArith (a b : Word) : Word := a.sshiftRight (shiftAmount b)

/-- ADDI (R181). -/
def execAddi (rd rs1 : RegIx) (imm : Word) (s : State) : Answer :=
  s.aluImm (· + ·) rd rs1 imm

/-- SLTI (R182). -/
def execSlti (rd rs1 : RegIx) (imm : Word) (s : State) : Answer :=
  s.aluImm (fun a b => boolWord (ltSigned a b)) rd rs1 imm

/-- SLTIU (R183). -/
def execSltiu (rd rs1 : RegIx) (imm : Word) (s : State) : Answer :=
  s.aluImm (fun a b => boolWord (ltUnsigned a b)) rd rs1 imm

/-- XORI (R184). -/
def execXori (rd rs1 : RegIx) (imm : Word) (s : State) : Answer :=
  s.aluImm (· ^^^ ·) rd rs1 imm

/-- ORI (R185). -/
def execOri (rd rs1 : RegIx) (imm : Word) (s : State) : Answer :=
  s.aluImm (· ||| ·) rd rs1 imm

/-- ANDI (R186). -/
def execAndi (rd rs1 : RegIx) (imm : Word) (s : State) : Answer :=
  s.aluImm (· &&& ·) rd rs1 imm

/-- SLLI (R187). -/
def execSlli (rd rs1 : RegIx) (shamt : BitVec 5) (s : State) : Answer :=
  s.shiftImm (· <<< ·) rd rs1 shamt

/-- SRLI (R188). -/
def execSrli (rd rs1 : RegIx) (shamt : BitVec 5) (s : State) : Answer :=
  s.shiftImm (· >>> ·) rd rs1 shamt

/-- SRAI (R189). -/
def execSrai (rd rs1 : RegIx) (shamt : BitVec 5) (s : State) : Answer :=
  s.shiftImm BitVec.sshiftRight rd rs1 shamt

/-- ADD (R190). -/
def execAdd (rd rs1 rs2 : RegIx) (s : State) : Answer :=
  s.aluReg (· + ·) rd rs1 rs2

/-- SUB (R191). -/
def execSub (rd rs1 rs2 : RegIx) (s : State) : Answer :=
  s.aluReg (· - ·) rd rs1 rs2

/-- SLL (R192). -/
def execSll (rd rs1 rs2 : RegIx) (s : State) : Answer :=
  s.aluReg shl rd rs1 rs2

/-- SLT (R193). -/
def execSlt (rd rs1 rs2 : RegIx) (s : State) : Answer :=
  s.aluReg (fun a b => boolWord (ltSigned a b)) rd rs1 rs2

/-- SLTU (R194). -/
def execSltu (rd rs1 rs2 : RegIx) (s : State) : Answer :=
  s.aluReg (fun a b => boolWord (ltUnsigned a b)) rd rs1 rs2

/-- XOR (R195). -/
def execXor (rd rs1 rs2 : RegIx) (s : State) : Answer :=
  s.aluReg (· ^^^ ·) rd rs1 rs2

/-- OR (R198). -/
def execOr (rd rs1 rs2 : RegIx) (s : State) : Answer :=
  s.aluReg (· ||| ·) rd rs1 rs2

/-- AND (R199). -/
def execAnd (rd rs1 rs2 : RegIx) (s : State) : Answer :=
  s.aluReg (· &&& ·) rd rs1 rs2

/-- SRL (R196). -/
def execSrl (rd rs1 rs2 : RegIx) (s : State) : Answer :=
  s.aluReg shrLogical rd rs1 rs2

/-- SRA (R197). -/
def execSra (rd rs1 rs2 : RegIx) (s : State) : Answer :=
  s.aluReg shrArith rd rs1 rs2

end Sys2Proof.Machine
end

