-- ==== Sys2Proof/Machine/Atomic.lean ====
section
/-!
DEFINITION. Atomic memory operations (spec/45_atomics.md R250 to R264).
-/

namespace Sys2Proof.Machine

/-- LR.W: `resv <- off[28:0] ; x[rd] <- old` (R252). `aq` and `rl` are ignored (R263). -/
def execLrW (rd rs1 : RegIx) (_aq _rl : Bool) (s : State) : Answer :=
  s.atomic (s.x rs1) fun off =>
    { s with resv := resvOf off }.retire rd (readWord s.mem (s.x rs1).toNat)

/-- SC.W: stores and answers 0 exactly when the reservation is this offset's, else answers 1; `resv` is kept (R253, R251). -/
def execScW (rd rs1 rs2 : RegIx) (_aq _rl : Bool) (s : State) : Answer :=
  s.atomic (s.x rs1) fun off =>
    if s.resv = resvOf off then
      { s with mem := writeWord s.mem (s.x rs1).toNat (s.x rs2) }.retire rd 0#32
    else s.retire rd 1#32

/-- AMOSWAP.W (R254). -/
def execAmoswapW (rd rs1 rs2 : RegIx) (_aq _rl : Bool) (s : State) : Answer :=
  s.amo (fun _ v => v) rd rs1 rs2

/-- AMOADD.W (R255). -/
def execAmoaddW (rd rs1 rs2 : RegIx) (_aq _rl : Bool) (s : State) : Answer :=
  s.amo (· + ·) rd rs1 rs2

/-- AMOXOR.W (R256). -/
def execAmoxorW (rd rs1 rs2 : RegIx) (_aq _rl : Bool) (s : State) : Answer :=
  s.amo (· ^^^ ·) rd rs1 rs2

/-- AMOAND.W (R257). -/
def execAmoandW (rd rs1 rs2 : RegIx) (_aq _rl : Bool) (s : State) : Answer :=
  s.amo (· &&& ·) rd rs1 rs2

/-- AMOOR.W (R258). -/
def execAmoorW (rd rs1 rs2 : RegIx) (_aq _rl : Bool) (s : State) : Answer :=
  s.amo (· ||| ·) rd rs1 rs2

/-- AMOMIN.W (R259). -/
def execAmominW (rd rs1 rs2 : RegIx) (_aq _rl : Bool) (s : State) : Answer :=
  s.amo (fun old v => if ltSigned v old then v else old) rd rs1 rs2

/-- AMOMAX.W (R260). -/
def execAmomaxW (rd rs1 rs2 : RegIx) (_aq _rl : Bool) (s : State) : Answer :=
  s.amo (fun old v => if ltSigned old v then v else old) rd rs1 rs2

/-- AMOMINU.W (R261). -/
def execAmominuW (rd rs1 rs2 : RegIx) (_aq _rl : Bool) (s : State) : Answer :=
  s.amo (fun old v => if ltUnsigned v old then v else old) rd rs1 rs2

/-- AMOMAXU.W (R262). -/
def execAmomaxuW (rd rs1 rs2 : RegIx) (_aq _rl : Bool) (s : State) : Answer :=
  s.amo (fun old v => if ltUnsigned old v then v else old) rd rs1 rs2

end Sys2Proof.Machine
end

