-- ==== Sys2Proof/Machine/Control.lean ====
section
/-!
DEFINITION. Branches and jumps (spec/44_control_transfer.md R230 to R239).
-/

namespace Sys2Proof.Machine

/-- A conditional branch: `pc + immB` when taken, else `pc + 4`; it never traps itself (R230). -/
def State.branch (s : State) (taken : Bool) (imm : Word) : Answer :=
  .next (s.setPc (if taken then s.pc + imm else s.pc + 4#32))

/-- BEQ: branch if equal (R231). -/
def execBeq (rs1 rs2 : RegIx) (imm : Word) (s : State) : Answer := s.branch (s.x rs1 == s.x rs2) imm

/-- BNE: branch if not equal (R232). -/
def execBne (rs1 rs2 : RegIx) (imm : Word) (s : State) : Answer := s.branch (s.x rs1 != s.x rs2) imm

/-- BLT: branch if less than, signed (R233). -/
def execBlt (rs1 rs2 : RegIx) (imm : Word) (s : State) : Answer := s.branch (ltSigned (s.x rs1) (s.x rs2)) imm

/-- BGE: branch if greater or equal, signed (R234). -/
def execBge (rs1 rs2 : RegIx) (imm : Word) (s : State) : Answer := s.branch (!ltSigned (s.x rs1) (s.x rs2)) imm

/-- BLTU: branch if less than, unsigned (R235). -/
def execBltu (rs1 rs2 : RegIx) (imm : Word) (s : State) : Answer := s.branch (ltUnsigned (s.x rs1) (s.x rs2)) imm

/-- BGEU: branch if greater or equal, unsigned (R236). -/
def execBgeu (rs1 rs2 : RegIx) (imm : Word) (s : State) : Answer := s.branch (!ltUnsigned (s.x rs1) (s.x rs2)) imm

/-- JAL: the target from the instruction's own pc, the return address into `rd` (R237). -/
def execJal (rd : RegIx) (imm : Word) (s : State) : Answer :=
  .next ((s.setX rd (s.pc + 4#32)).setPc (s.pc + imm))

/-- JALR: the target from the old `rs1` with bit 0 cleared, the return address into `rd` (R238). -/
def execJalr (rd rs1 : RegIx) (imm : Word) (s : State) : Answer :=
  .next ((s.setX rd (s.pc + 4#32)).setPc ((s.x rs1 + imm) &&& 0xfffffffe#32))

end Sys2Proof.Machine
end

