-- ==== Sys2Proof/Machine/LoadStore.lean ====
section
/-!
DEFINITION. Loads and stores (spec/41_loads_stores.md R160 to R168).
-/

namespace Sys2Proof.Machine

/-- LB: load byte, signed (R161). -/
def execLb (rd rs1 : RegIx) (imm : Word) (s : State) : Answer := s.load .byte true rd (s.ea rs1 imm)

/-- LH: load halfword, signed (R162). -/
def execLh (rd rs1 : RegIx) (imm : Word) (s : State) : Answer := s.load .half true rd (s.ea rs1 imm)

/-- LW: load word (R163). -/
def execLw (rd rs1 : RegIx) (imm : Word) (s : State) : Answer := s.load .word false rd (s.ea rs1 imm)

/-- LBU: load byte, unsigned (R164). -/
def execLbu (rd rs1 : RegIx) (imm : Word) (s : State) : Answer := s.load .byte false rd (s.ea rs1 imm)

/-- LHU: load halfword, unsigned (R165). -/
def execLhu (rd rs1 : RegIx) (imm : Word) (s : State) : Answer := s.load .half false rd (s.ea rs1 imm)

/-- SB: store byte (R166). -/
def execSb (rs1 rs2 : RegIx) (imm : Word) (s : State) : Answer := s.store .byte (s.ea rs1 imm) (s.x rs2)

/-- SH: store halfword (R167). -/
def execSh (rs1 rs2 : RegIx) (imm : Word) (s : State) : Answer := s.store .half (s.ea rs1 imm) (s.x rs2)

/-- SW: store word (R168). -/
def execSw (rs1 rs2 : RegIx) (imm : Word) (s : State) : Answer := s.store .word (s.ea rs1 imm) (s.x rs2)

end Sys2Proof.Machine
end

