-- ==== Sys2Proof/Machine/MulDiv.lean ====
section
/-!
DEFINITION. Multiply and divide (spec/43_multiply_divide.md R210 to R220).
-/

namespace Sys2Proof.Machine

/-- Bits 63:32 of an exact product (R212 to R214). -/
def highWord (p : Int) : Word := BitVec.ofInt 32 (p / 2 ^ 32)

/-- The low 32 bits of the product (R211). -/
def mulLow (a b : Word) : Word := BitVec.ofNat 32 (a.toNat * b.toNat)

/-- Signed by signed, high word (R212). -/
def mulHighSigned (a b : Word) : Word := highWord (a.toInt * b.toInt)

/-- Signed by unsigned, high word (R213). -/
def mulHighSignedUnsigned (a b : Word) : Word := highWord (a.toInt * b.toNat)

/-- Unsigned by unsigned, high word (R214). -/
def mulHighUnsigned (a b : Word) : Word := highWord ((a.toNat : Int) * b.toNat)

/-- Signed quotient, truncating toward zero, with the two sentinels (R215, R219). -/
def divSigned (a b : Word) : Word :=
  if b = 0#32 then 0xffffffff#32
  else if a = 0x80000000#32 ∧ b = 0xffffffff#32 then 0x80000000#32
  else BitVec.ofInt 32 (a.toInt.tdiv b.toInt)

/-- Unsigned quotient, all ones for a zero divisor (R216, R219). -/
def divUnsigned (a b : Word) : Word :=
  if b = 0#32 then 0xffffffff#32 else BitVec.ofNat 32 (a.toNat / b.toNat)

/-- Signed remainder, with the sign of the dividend, and the two sentinels (R217, R219). -/
def remSigned (a b : Word) : Word :=
  if b = 0#32 then a
  else if a = 0x80000000#32 ∧ b = 0xffffffff#32 then 0#32
  else BitVec.ofInt 32 (a.toInt.tmod b.toInt)

/-- Unsigned remainder, the dividend for a zero divisor (R218, R219). -/
def remUnsigned (a b : Word) : Word :=
  if b = 0#32 then a else BitVec.ofNat 32 (a.toNat % b.toNat)

/-- `x[rd] <- op x[rs1] x[rs2] ; pc <- pc + 4` (R210). -/
def State.mulDiv (s : State) (op : Word → Word → Word) (rd rs1 rs2 : RegIx) : Answer :=
  .next (s.retire rd (op (s.x rs1) (s.x rs2)))

/-- MUL (R211). -/
def execMul (rd rs1 rs2 : RegIx) (s : State) : Answer := s.mulDiv mulLow rd rs1 rs2

/-- MULH (R212). -/
def execMulh (rd rs1 rs2 : RegIx) (s : State) : Answer := s.mulDiv mulHighSigned rd rs1 rs2

/-- MULHSU (R213). -/
def execMulhsu (rd rs1 rs2 : RegIx) (s : State) : Answer := s.mulDiv mulHighSignedUnsigned rd rs1 rs2

/-- MULHU (R214). -/
def execMulhu (rd rs1 rs2 : RegIx) (s : State) : Answer := s.mulDiv mulHighUnsigned rd rs1 rs2

/-- DIV (R215). -/
def execDiv (rd rs1 rs2 : RegIx) (s : State) : Answer := s.mulDiv divSigned rd rs1 rs2

/-- DIVU (R216). -/
def execDivu (rd rs1 rs2 : RegIx) (s : State) : Answer := s.mulDiv divUnsigned rd rs1 rs2

/-- REM (R217). -/
def execRem (rd rs1 rs2 : RegIx) (s : State) : Answer := s.mulDiv remSigned rd rs1 rs2

/-- REMU (R218). -/
def execRemu (rd rs1 rs2 : RegIx) (s : State) : Answer := s.mulDiv remUnsigned rd rs1 rs2

end Sys2Proof.Machine
end

