-- ==== Sys2Proof/Machine/System.lean ====
section
/-!
DEFINITION. Fences, system instructions and CSR access (spec/46_system_csr.md R270 to R285).
-/

namespace Sys2Proof.Machine

/-- A MISC-MEM instruction: only the pc advances, since nothing is reordered (R89). -/
def State.noOp (s : State) : Answer := .next s.advance

/-- FENCE (R270). -/
def execFence (_fm _pred _succ : BitVec 4) (s : State) : Answer := s.noOp

/-- FENCE.I: every fetch reads current RAM (R271, R90). -/
def execFenceI (s : State) : Answer := s.noOp

/-- MISC-MEM with funct3 2 (R272). -/
def execMiscMemF2 (s : State) : Answer := s.noOp

/-- MISC-MEM with funct3 3 (R272). -/
def execMiscMemF3 (s : State) : Answer := s.noOp

/-- MISC-MEM with funct3 4 (R272). -/
def execMiscMemF4 (s : State) : Answer := s.noOp

/-- MISC-MEM with funct3 5 (R272). -/
def execMiscMemF5 (s : State) : Answer := s.noOp

/-- MISC-MEM with funct3 6 (R272). -/
def execMiscMemF6 (s : State) : Answer := s.noOp

/-- MISC-MEM with funct3 7 (R272). -/
def execMiscMemF7 (s : State) : Answer := s.noOp

/-- ECALL: cause 8 when `priv` is 0, else 11; the trap value is the pc (R273, R312). -/
def execEcall (s : State) : Answer :=
  .next (s.raise (if s.priv = 0#2 then .ecallFromU else .ecallFromM) s.pc)

/-- EBREAK: cause 3, the trap value is the pc (R274, R312). -/
def execEbreak (s : State) : Answer := .next (s.raise .breakpoint s.pc)

/-- MRET: legal in every mode (R275, R285). -/
def execMret (s : State) : Answer := .next s.trapReturn

/-- WFI: MIE is set, the latch is set, the pc moves per `WFI_RESUME_PC`, and the call ends Sleeping (R283). -/
def execWfi (s : State) : Answer :=
  .next ({ s with
    mstatus := s.mstatus ||| 0x8#32
    wfi := true
    pc := match s.cfg.wfiResume with
      | .next => s.pc + 4#32
      | .self => s.pc }.sleep)

/-- CSRRW (R277). -/
def execCsrrw (rd rs1 : RegIx) (csr : CsrIx) (s : State) : Answer := s.csrOp (fun _ => s.x rs1) rd csr

/-- CSRRS (R278). -/
def execCsrrs (rd rs1 : RegIx) (csr : CsrIx) (s : State) : Answer := s.csrOp (· ||| s.x rs1) rd csr

/-- CSRRC (R279). -/
def execCsrrc (rd rs1 : RegIx) (csr : CsrIx) (s : State) : Answer := s.csrOp (· &&& ~~~(s.x rs1)) rd csr

/-- CSRRWI (R280). -/
def execCsrrwi (rd : RegIx) (zimm : BitVec 5) (csr : CsrIx) (s : State) : Answer :=
  s.csrOp (fun _ => zextZimm zimm) rd csr

/-- CSRRSI (R281). -/
def execCsrrsi (rd : RegIx) (zimm : BitVec 5) (csr : CsrIx) (s : State) : Answer :=
  s.csrOp (· ||| zextZimm zimm) rd csr

/-- CSRRCI (R282). -/
def execCsrrci (rd : RegIx) (zimm : BitVec 5) (csr : CsrIx) (s : State) : Answer :=
  s.csrOp (· &&& ~~~(zextZimm zimm)) rd csr

end Sys2Proof.Machine
end

