-- ==== Sys2Proof/Machine/UpperImm.lean ====
section
/-!
DEFINITION. Upper immediates (spec/40_upper_immediate.md).
-/

namespace Sys2Proof.Machine

/-- LUI: `x[rd] <- immU` (R150). -/
def execLui (rd : RegIx) (imm : Word) (s : State) : Answer := .next (s.retire rd imm)

/-- AUIPC: `x[rd] <- pc + immU`, the instruction's own pc (R151). -/
def execAuipc (rd : RegIx) (imm : Word) (s : State) : Answer := .next (s.retire rd (s.pc + imm))

end Sys2Proof.Machine
end

