-- ==== Sys2Proof/Syntax.lean ====
section
/-!
DEFINITION. The instructions: one constructor per row of spec/opcode_table.json, in the table's order. A constructor holds
the operands the row names; an immediate is the 32-bit value the instruction rules use (spec/30_encoding.md R113 to R117),
so `WellFormed` says which values the encoding admits.
-/

namespace Sys2Proof

/-- One constructor per row of spec/opcode_table.json (74 rows, R110, R131). -/
inductive Instr where
  -- upper immediates (R150, R151)
  | lui (rd : RegIx) (imm : Word)
  | auipc (rd : RegIx) (imm : Word)
  -- loads (R161 to R165)
  | lb (rd rs1 : RegIx) (imm : Word)
  | lh (rd rs1 : RegIx) (imm : Word)
  | lw (rd rs1 : RegIx) (imm : Word)
  | lbu (rd rs1 : RegIx) (imm : Word)
  | lhu (rd rs1 : RegIx) (imm : Word)
  -- stores (R166 to R168)
  | sb (rs1 rs2 : RegIx) (imm : Word)
  | sh (rs1 rs2 : RegIx) (imm : Word)
  | sw (rs1 rs2 : RegIx) (imm : Word)
  -- register-immediate (R181 to R189)
  | addi (rd rs1 : RegIx) (imm : Word)
  | slti (rd rs1 : RegIx) (imm : Word)
  | sltiu (rd rs1 : RegIx) (imm : Word)
  | xori (rd rs1 : RegIx) (imm : Word)
  | ori (rd rs1 : RegIx) (imm : Word)
  | andi (rd rs1 : RegIx) (imm : Word)
  | slli (rd rs1 : RegIx) (shamt : BitVec 5)
  | srli (rd rs1 : RegIx) (shamt : BitVec 5)
  | srai (rd rs1 : RegIx) (shamt : BitVec 5)
  -- register-register (R190 to R199)
  | add (rd rs1 rs2 : RegIx)
  | sub (rd rs1 rs2 : RegIx)
  | sll (rd rs1 rs2 : RegIx)
  | slt (rd rs1 rs2 : RegIx)
  | sltu (rd rs1 rs2 : RegIx)
  | xor (rd rs1 rs2 : RegIx)
  | or (rd rs1 rs2 : RegIx)
  | and (rd rs1 rs2 : RegIx)
  | srl (rd rs1 rs2 : RegIx)
  | sra (rd rs1 rs2 : RegIx)
  -- multiply and divide (R211 to R218)
  | mul (rd rs1 rs2 : RegIx)
  | mulh (rd rs1 rs2 : RegIx)
  | mulhsu (rd rs1 rs2 : RegIx)
  | mulhu (rd rs1 rs2 : RegIx)
  | div (rd rs1 rs2 : RegIx)
  | divu (rd rs1 rs2 : RegIx)
  | rem (rd rs1 rs2 : RegIx)
  | remu (rd rs1 rs2 : RegIx)
  -- branches and jumps (R231 to R238)
  | beq (rs1 rs2 : RegIx) (imm : Word)
  | bne (rs1 rs2 : RegIx) (imm : Word)
  | blt (rs1 rs2 : RegIx) (imm : Word)
  | bge (rs1 rs2 : RegIx) (imm : Word)
  | bltu (rs1 rs2 : RegIx) (imm : Word)
  | bgeu (rs1 rs2 : RegIx) (imm : Word)
  | jal (rd : RegIx) (imm : Word)
  | jalr (rd rs1 : RegIx) (imm : Word)
  -- atomics (R252 to R262); aq and rl are operands of the row, ignored by the core (R263)
  | lrW (rd rs1 : RegIx) (aq rl : Bool)
  | scW (rd rs1 rs2 : RegIx) (aq rl : Bool)
  | amoswapW (rd rs1 rs2 : RegIx) (aq rl : Bool)
  | amoaddW (rd rs1 rs2 : RegIx) (aq rl : Bool)
  | amoxorW (rd rs1 rs2 : RegIx) (aq rl : Bool)
  | amoandW (rd rs1 rs2 : RegIx) (aq rl : Bool)
  | amoorW (rd rs1 rs2 : RegIx) (aq rl : Bool)
  | amominW (rd rs1 rs2 : RegIx) (aq rl : Bool)
  | amomaxW (rd rs1 rs2 : RegIx) (aq rl : Bool)
  | amominuW (rd rs1 rs2 : RegIx) (aq rl : Bool)
  | amomaxuW (rd rs1 rs2 : RegIx) (aq rl : Bool)
  -- fences (R270 to R272)
  | fence (fm pred succ : BitVec 4)
  | fenceI
  | miscMemF2
  | miscMemF3
  | miscMemF4
  | miscMemF5
  | miscMemF6
  | miscMemF7
  -- trap-raising, trap-return and wait (R273, R274, R275, R283)
  | ecall
  | ebreak
  | mret
  | wfi
  -- CSR access (R277 to R282)
  | csrrw (rd rs1 : RegIx) (csr : CsrIx)
  | csrrs (rd rs1 : RegIx) (csr : CsrIx)
  | csrrc (rd rs1 : RegIx) (csr : CsrIx)
  | csrrwi (rd : RegIx) (zimm : BitVec 5) (csr : CsrIx)
  | csrrsi (rd : RegIx) (zimm : BitVec 5) (csr : CsrIx)
  | csrrci (rd : RegIx) (zimm : BitVec 5) (csr : CsrIx)
  deriving DecidableEq, Repr

end Sys2Proof
end

