-- ==== Sys2Proof/WellFormed.lean ====
section
/-!
DEFINITION. Which operand values the encoding admits (spec/30_encoding.md R113 to R117). Register numbers, shift amounts,
CSR numbers and the 5-bit immediates have the width of their field, so every value of them is admitted.
-/

namespace Sys2Proof

/-- I- and S-type immediates: -2048 to 2047 (R113, R114). -/
def immFits12 (imm : Word) : Bool :=
  decide (-2048 ≤ imm.toInt) && decide (imm.toInt ≤ 2047)

/-- B-type immediates: even, -4096 to 4094 (R115). -/
def immFitsB (imm : Word) : Bool :=
  imm.toInt % 2 == 0 && decide (-4096 ≤ imm.toInt) && decide (imm.toInt ≤ 4094)

/-- U-type immediates: the low 12 bits are zero (R116). -/
def immFitsU (imm : Word) : Bool :=
  imm.toNat % 4096 == 0

/-- J-type immediates: even, -1048576 to 1048574 (R117). -/
def immFitsJ (imm : Word) : Bool :=
  imm.toInt % 2 == 0 && decide (-1048576 ≤ imm.toInt) && decide (imm.toInt ≤ 1048574)

/-- The check: an instruction's immediate is one its format encodes. -/
def Instr.wf : Instr → Bool
  | .lui _ imm | .auipc _ imm => immFitsU imm
  | .lb _ _ imm | .lh _ _ imm | .lw _ _ imm | .lbu _ _ imm | .lhu _ _ imm => immFits12 imm
  | .sb _ _ imm | .sh _ _ imm | .sw _ _ imm => immFits12 imm
  | .addi _ _ imm | .slti _ _ imm | .sltiu _ _ imm | .xori _ _ imm | .ori _ _ imm | .andi _ _ imm => immFits12 imm
  | .slli _ _ _ | .srli _ _ _ | .srai _ _ _ => true
  | .add _ _ _ | .sub _ _ _ | .sll _ _ _ | .slt _ _ _ | .sltu _ _ _ => true
  | .xor _ _ _ | .or _ _ _ | .and _ _ _ | .srl _ _ _ | .sra _ _ _ => true
  | .mul _ _ _ | .mulh _ _ _ | .mulhsu _ _ _ | .mulhu _ _ _ => true
  | .div _ _ _ | .divu _ _ _ | .rem _ _ _ | .remu _ _ _ => true
  | .beq _ _ imm | .bne _ _ imm | .blt _ _ imm | .bge _ _ imm | .bltu _ _ imm | .bgeu _ _ imm => immFitsB imm
  | .jal _ imm => immFitsJ imm
  | .jalr _ _ imm => immFits12 imm
  | .lrW _ _ _ _ | .scW _ _ _ _ _ | .amoswapW _ _ _ _ _ | .amoaddW _ _ _ _ _ | .amoxorW _ _ _ _ _ => true
  | .amoandW _ _ _ _ _ | .amoorW _ _ _ _ _ | .amominW _ _ _ _ _ | .amomaxW _ _ _ _ _ => true
  | .amominuW _ _ _ _ _ | .amomaxuW _ _ _ _ _ => true
  | .fence _ _ _ | .fenceI | .miscMemF2 | .miscMemF3 | .miscMemF4 | .miscMemF5 | .miscMemF6 | .miscMemF7 => true
  | .ecall | .ebreak | .mret | .wfi => true
  | .csrrw _ _ _ | .csrrs _ _ _ | .csrrc _ _ _ | .csrrwi _ _ _ | .csrrsi _ _ _ | .csrrci _ _ _ => true

/-- An instruction whose operands the encoding admits. -/
abbrev Instr.WellFormed (i : Instr) : Prop := i.wf = true

end Sys2Proof
end

