-- ==== Sys2Proof/Decode.lean ====
section
/-!
DEFINITION. Decoding (spec/30_encoding.md): a total function of the 32-bit word that rejects by name (R131, R128), the
encoder written from the same formats (R112), and the opcode table as data.
-/

namespace Sys2Proof

/-- Why a word is illegal: one name per case of R128. `tooShort` is for a byte list with no whole word in it (R110). -/
inductive Illegal where
  | opcode
  | loadFunct3
  | storeFunct3
  | branchFunct3
  | systemFunct3
  | systemImm12
  | amoFunct5
  | tooShort
  deriving DecidableEq, Repr

/-! ## Fields and immediates -/

/-- `opcode`, bits 6:0 (R111). -/
def fOpcode (w : Word) : BitVec 7 := w.extractLsb' 0 7

/-- `rd`, bits 11:7 (R111). -/
def fRd (w : Word) : RegIx := w.extractLsb' 7 5

/-- `funct3`, bits 14:12 (R111). -/
def fFunct3 (w : Word) : BitVec 3 := w.extractLsb' 12 3

/-- `rs1`, bits 19:15 (R111), and `zimm` of the CSR form (R119). -/
def fRs1 (w : Word) : RegIx := w.extractLsb' 15 5

/-- `rs2`, bits 24:20 (R111), and `shamt` of the shift-immediate form (R118). -/
def fRs2 (w : Word) : RegIx := w.extractLsb' 20 5

/-- Bit 25, which selects the M extension in OP (R122). -/
def fBit25 (w : Word) : BitVec 1 := w.extractLsb' 25 1

/-- Bit 30, which selects SUB, SRA and SRAI (R122). -/
def fBit30 (w : Word) : BitVec 1 := w.extractLsb' 30 1

/-- `imm12`, bits 31:20: the CSR number (R119) and the SYSTEM function (R124). -/
def fImm12 (w : Word) : BitVec 12 := w.extractLsb' 20 12

/-- `funct5` of the AMO form, bits 31:27 (R120). -/
def fFunct5 (w : Word) : BitVec 5 := w.extractLsb' 27 5

/-- `aq`, bit 26 (R120). -/
def fAq (w : Word) : Bool := w.getLsbD 26

/-- `rl`, bit 25 (R120). -/
def fRl (w : Word) : Bool := w.getLsbD 25

/-- I-type immediate (R113). -/
def immI (w : Word) : Word := (w.extractLsb' 20 12).signExtend 32

/-- S-type immediate (R114). -/
def immS (w : Word) : Word := (w.extractLsb' 25 7 ++ w.extractLsb' 7 5).signExtend 32

/-- B-type immediate (R115). -/
def immB (w : Word) : Word :=
  (w.extractLsb' 31 1 ++ w.extractLsb' 7 1 ++ w.extractLsb' 25 6 ++ w.extractLsb' 8 4 ++ 0#1).signExtend 32

/-- U-type immediate (R116). -/
def immU (w : Word) : Word := w.extractLsb' 12 20 ++ 0#12

/-- J-type immediate (R117). -/
def immJ (w : Word) : Word :=
  (w.extractLsb' 31 1 ++ w.extractLsb' 12 8 ++ w.extractLsb' 20 1 ++ w.extractLsb' 21 10 ++ 0#1).signExtend 32

/-! ## The decoder -/

/-- LOAD, by `funct3` (R123). -/
def decodeLoad (w : Word) : Except Illegal Instr :=
  match fFunct3 w with
  | 0#3 => .ok (.lb (fRd w) (fRs1 w) (immI w))
  | 1#3 => .ok (.lh (fRd w) (fRs1 w) (immI w))
  | 2#3 => .ok (.lw (fRd w) (fRs1 w) (immI w))
  | 4#3 => .ok (.lbu (fRd w) (fRs1 w) (immI w))
  | 5#3 => .ok (.lhu (fRd w) (fRs1 w) (immI w))
  | _ => .error .loadFunct3

/-- STORE, by `funct3` (R123). -/
def decodeStore (w : Word) : Except Illegal Instr :=
  match fFunct3 w with
  | 0#3 => .ok (.sb (fRs1 w) (fRs2 w) (immS w))
  | 1#3 => .ok (.sh (fRs1 w) (fRs2 w) (immS w))
  | 2#3 => .ok (.sw (fRs1 w) (fRs2 w) (immS w))
  | _ => .error .storeFunct3

/-- BRANCH, by `funct3` (R123). -/
def decodeBranch (w : Word) : Except Illegal Instr :=
  match fFunct3 w with
  | 0#3 => .ok (.beq (fRs1 w) (fRs2 w) (immB w))
  | 1#3 => .ok (.bne (fRs1 w) (fRs2 w) (immB w))
  | 4#3 => .ok (.blt (fRs1 w) (fRs2 w) (immB w))
  | 5#3 => .ok (.bge (fRs1 w) (fRs2 w) (immB w))
  | 6#3 => .ok (.bltu (fRs1 w) (fRs2 w) (immB w))
  | 7#3 => .ok (.bgeu (fRs1 w) (fRs2 w) (immB w))
  | _ => .error .branchFunct3

/-- OP-IMM, by `funct3` and, for `funct3` 5, bit 30 (R122); every combination is legal. -/
def decodeOpImm (w : Word) : Instr :=
  match fFunct3 w with
  | 0#3 => .addi (fRd w) (fRs1 w) (immI w)
  | 1#3 => .slli (fRd w) (fRs1 w) (fRs2 w)
  | 2#3 => .slti (fRd w) (fRs1 w) (immI w)
  | 3#3 => .sltiu (fRd w) (fRs1 w) (immI w)
  | 4#3 => .xori (fRd w) (fRs1 w) (immI w)
  | 5#3 => if fBit30 w = 0#1 then .srli (fRd w) (fRs1 w) (fRs2 w) else .srai (fRd w) (fRs1 w) (fRs2 w)
  | 6#3 => .ori (fRd w) (fRs1 w) (immI w)
  | _ => .andi (fRd w) (fRs1 w) (immI w)

/-- OP with bit 25 = 1: the M extension (R122). -/
def decodeMulDiv (w : Word) : Instr :=
  match fFunct3 w with
  | 0#3 => .mul (fRd w) (fRs1 w) (fRs2 w)
  | 1#3 => .mulh (fRd w) (fRs1 w) (fRs2 w)
  | 2#3 => .mulhsu (fRd w) (fRs1 w) (fRs2 w)
  | 3#3 => .mulhu (fRd w) (fRs1 w) (fRs2 w)
  | 4#3 => .div (fRd w) (fRs1 w) (fRs2 w)
  | 5#3 => .divu (fRd w) (fRs1 w) (fRs2 w)
  | 6#3 => .rem (fRd w) (fRs1 w) (fRs2 w)
  | _ => .remu (fRd w) (fRs1 w) (fRs2 w)

/-- OP with bit 25 = 0, by `funct3` and, for `funct3` 0 and 5, bit 30 (R122). -/
def decodeOpBase (w : Word) : Instr :=
  match fFunct3 w with
  | 0#3 => if fBit30 w = 0#1 then .add (fRd w) (fRs1 w) (fRs2 w) else .sub (fRd w) (fRs1 w) (fRs2 w)
  | 1#3 => .sll (fRd w) (fRs1 w) (fRs2 w)
  | 2#3 => .slt (fRd w) (fRs1 w) (fRs2 w)
  | 3#3 => .sltu (fRd w) (fRs1 w) (fRs2 w)
  | 4#3 => .xor (fRd w) (fRs1 w) (fRs2 w)
  | 5#3 => if fBit30 w = 0#1 then .srl (fRd w) (fRs1 w) (fRs2 w) else .sra (fRd w) (fRs1 w) (fRs2 w)
  | 6#3 => .or (fRd w) (fRs1 w) (fRs2 w)
  | _ => .and (fRd w) (fRs1 w) (fRs2 w)

/-- OP: bit 25 is tested first, whatever bits 31:26 hold (R122). -/
def decodeOp (w : Word) : Instr :=
  if fBit25 w = 1#1 then decodeMulDiv w else decodeOpBase w

/-- MISC-MEM, by `funct3` (R126); every `funct3` is legal. -/
def decodeMiscMem (w : Word) : Instr :=
  match fFunct3 w with
  | 0#3 => .fence (w.extractLsb' 28 4) (w.extractLsb' 24 4) (w.extractLsb' 20 4)
  | 1#3 => .fenceI
  | 2#3 => .miscMemF2
  | 3#3 => .miscMemF3
  | 4#3 => .miscMemF4
  | 5#3 => .miscMemF5
  | 6#3 => .miscMemF6
  | _ => .miscMemF7

/-- SYSTEM with `funct3` 0, by `imm12` in the order of R124; `rd` and `rs1` are ignored. -/
def decodeSystemFn (w : Word) : Except Illegal Instr :=
  if fImm12 w = 0x105#12 then .ok .wfi
  else if (fImm12 w).extractLsb' 0 8 = 0x02#8 then .ok .mret
  else if fImm12 w = 0x000#12 then .ok .ecall
  else if fImm12 w = 0x001#12 then .ok .ebreak
  else .error .systemImm12

/-- SYSTEM, by `funct3` (R124). -/
def decodeSystem (w : Word) : Except Illegal Instr :=
  match fFunct3 w with
  | 0#3 => decodeSystemFn w
  | 1#3 => .ok (.csrrw (fRd w) (fRs1 w) (fImm12 w))
  | 2#3 => .ok (.csrrs (fRd w) (fRs1 w) (fImm12 w))
  | 3#3 => .ok (.csrrc (fRd w) (fRs1 w) (fImm12 w))
  | 5#3 => .ok (.csrrwi (fRd w) (fRs1 w) (fImm12 w))
  | 6#3 => .ok (.csrrsi (fRd w) (fRs1 w) (fImm12 w))
  | 7#3 => .ok (.csrrci (fRd w) (fRs1 w) (fImm12 w))
  | _ => .error .systemFunct3

/-- AMO, by `funct5` alone (R125); `funct3` is ignored, and `rs2` too for LR.W. -/
def decodeAmo (w : Word) : Except Illegal Instr :=
  match fFunct5 w with
  | 0#5 => .ok (.amoaddW (fRd w) (fRs1 w) (fRs2 w) (fAq w) (fRl w))
  | 1#5 => .ok (.amoswapW (fRd w) (fRs1 w) (fRs2 w) (fAq w) (fRl w))
  | 2#5 => .ok (.lrW (fRd w) (fRs1 w) (fAq w) (fRl w))
  | 3#5 => .ok (.scW (fRd w) (fRs1 w) (fRs2 w) (fAq w) (fRl w))
  | 4#5 => .ok (.amoxorW (fRd w) (fRs1 w) (fRs2 w) (fAq w) (fRl w))
  | 8#5 => .ok (.amoorW (fRd w) (fRs1 w) (fRs2 w) (fAq w) (fRl w))
  | 12#5 => .ok (.amoandW (fRd w) (fRs1 w) (fRs2 w) (fAq w) (fRl w))
  | 16#5 => .ok (.amominW (fRd w) (fRs1 w) (fRs2 w) (fAq w) (fRl w))
  | 20#5 => .ok (.amomaxW (fRd w) (fRs1 w) (fRs2 w) (fAq w) (fRl w))
  | 24#5 => .ok (.amominuW (fRd w) (fRs1 w) (fRs2 w) (fAq w) (fRl w))
  | 28#5 => .ok (.amomaxuW (fRd w) (fRs1 w) (fRs2 w) (fAq w) (fRl w))
  | _ => .error .amoFunct5

/-- Decoding a word: by major opcode (R121), total, a function of the word alone (R131). -/
def decode (w : Word) : Except Illegal Instr :=
  match fOpcode w with
  | 0x37#7 => .ok (.lui (fRd w) (immU w))
  | 0x17#7 => .ok (.auipc (fRd w) (immU w))
  | 0x6f#7 => .ok (.jal (fRd w) (immJ w))
  | 0x67#7 => .ok (.jalr (fRd w) (fRs1 w) (immI w))
  | 0x63#7 => decodeBranch w
  | 0x03#7 => decodeLoad w
  | 0x23#7 => decodeStore w
  | 0x13#7 => .ok (decodeOpImm w)
  | 0x33#7 => .ok (decodeOp w)
  | 0x0f#7 => .ok (decodeMiscMem w)
  | 0x73#7 => decodeSystem w
  | 0x2f#7 => decodeAmo w
  | _ => .error .opcode

/-! ## Bytes and words -/

/-- The word of four bytes, least significant first (R73, R110). -/
def wordOfBytes (b0 b1 b2 b3 : Byte) : Word := b3 ++ b2 ++ b1 ++ b0

/-- A word as its four bytes, least significant first (R73). -/
def bytesOfWord (w : Word) : List Byte :=
  [w.extractLsb' 0 8, w.extractLsb' 8 8, w.extractLsb' 16 8, w.extractLsb' 24 8]

/-- Decoding a byte list: the first four bytes are one instruction, the rest is left (R110). -/
def decodeBytes : List Byte → Except Illegal (Instr × List Byte)
  | b0 :: b1 :: b2 :: b3 :: rest =>
    match decode (wordOfBytes b0 b1 b2 b3) with
    | .ok i => .ok (i, rest)
    | .error e => .error e
  | _ => .error .tooShort

/-- The word the opcode table numbers as `w` with `nbits` bits given: every bit above `nbits` is 0. -/
def tableWord (nbits w : Nat) : Word := BitVec.ofNat 32 (w % 2 ^ nbits)

/-- What the decoder reads from an instruction whose bits, numbered as spec/opcode_table.json numbers them, are `w`; the
bytes are laid out as the hardware stores them, lowest address first. -/
def decodeTableWord (nbits w : Nat) : Option Instr :=
  match decodeBytes (bytesOfWord (tableWord nbits w)) with
  | .ok (i, _) => some i
  | .error _ => none

/-! ## The encoder -/

/-- Format R (R112). -/
def encR (funct7 : BitVec 7) (rs2 rs1 : RegIx) (funct3 : BitVec 3) (rd : RegIx) (opcode : BitVec 7) : Word :=
  funct7 ++ rs2 ++ rs1 ++ funct3 ++ rd ++ opcode

/-- Format I (R112), from the 12 bits 31:20. -/
def encI (imm12 : BitVec 12) (rs1 : RegIx) (funct3 : BitVec 3) (rd : RegIx) (opcode : BitVec 7) : Word :=
  imm12 ++ rs1 ++ funct3 ++ rd ++ opcode

/-- The 12 encoded bits of an I-type immediate (R113). -/
def low12 (imm : Word) : BitVec 12 := imm.extractLsb' 0 12

/-- Format S (R112, R114). -/
def encS (imm : Word) (rs2 rs1 : RegIx) (funct3 : BitVec 3) : Word :=
  imm.extractLsb' 5 7 ++ rs2 ++ rs1 ++ funct3 ++ imm.extractLsb' 0 5 ++ 0x23#7

/-- Format B (R112, R115). -/
def encB (imm : Word) (rs2 rs1 : RegIx) (funct3 : BitVec 3) : Word :=
  imm.extractLsb' 12 1 ++ imm.extractLsb' 5 6 ++ rs2 ++ rs1 ++ funct3 ++ imm.extractLsb' 1 4 ++ imm.extractLsb' 11 1
    ++ 0x63#7

/-- Format U (R112, R116). -/
def encU (imm : Word) (rd : RegIx) (opcode : BitVec 7) : Word :=
  imm.extractLsb' 12 20 ++ rd ++ opcode

/-- Format J (R112, R117). -/
def encJ (imm : Word) (rd : RegIx) : Word :=
  imm.extractLsb' 20 1 ++ imm.extractLsb' 1 10 ++ imm.extractLsb' 11 1 ++ imm.extractLsb' 12 8 ++ rd ++ 0x6f#7

/-- The AMO form (R120), with the standard word `funct3` 010. -/
def encAmo (funct5 : BitVec 5) (aq rl : Bool) (rs2 rs1 rd : RegIx) : Word :=
  funct5 ++ BitVec.ofBool aq ++ BitVec.ofBool rl ++ rs2 ++ rs1 ++ 2#3 ++ rd ++ 0x2f#7

/-- MISC-MEM with `funct3` alone set, every ignored field 0 (R126). -/
def encMiscMem (funct3 : BitVec 3) : Word := encI 0#12 0#5 funct3 0#5 0x0f#7

/-- The word of an instruction: for a well-formed one, the encoding of spec/30_encoding.md with every ignored field (R127)
at its standard value (MRET is `0x30200073`, R275). -/
def encode : Instr → Word
  | .lui rd imm => encU imm rd 0x37#7
  | .auipc rd imm => encU imm rd 0x17#7
  | .lb rd rs1 imm => encI (low12 imm) rs1 0#3 rd 0x03#7
  | .lh rd rs1 imm => encI (low12 imm) rs1 1#3 rd 0x03#7
  | .lw rd rs1 imm => encI (low12 imm) rs1 2#3 rd 0x03#7
  | .lbu rd rs1 imm => encI (low12 imm) rs1 4#3 rd 0x03#7
  | .lhu rd rs1 imm => encI (low12 imm) rs1 5#3 rd 0x03#7
  | .sb rs1 rs2 imm => encS imm rs2 rs1 0#3
  | .sh rs1 rs2 imm => encS imm rs2 rs1 1#3
  | .sw rs1 rs2 imm => encS imm rs2 rs1 2#3
  | .addi rd rs1 imm => encI (low12 imm) rs1 0#3 rd 0x13#7
  | .slti rd rs1 imm => encI (low12 imm) rs1 2#3 rd 0x13#7
  | .sltiu rd rs1 imm => encI (low12 imm) rs1 3#3 rd 0x13#7
  | .xori rd rs1 imm => encI (low12 imm) rs1 4#3 rd 0x13#7
  | .ori rd rs1 imm => encI (low12 imm) rs1 6#3 rd 0x13#7
  | .andi rd rs1 imm => encI (low12 imm) rs1 7#3 rd 0x13#7
  | .slli rd rs1 shamt => encR 0#7 shamt rs1 1#3 rd 0x13#7
  | .srli rd rs1 shamt => encR 0#7 shamt rs1 5#3 rd 0x13#7
  | .srai rd rs1 shamt => encR 0x20#7 shamt rs1 5#3 rd 0x13#7
  | .add rd rs1 rs2 => encR 0#7 rs2 rs1 0#3 rd 0x33#7
  | .sub rd rs1 rs2 => encR 0x20#7 rs2 rs1 0#3 rd 0x33#7
  | .sll rd rs1 rs2 => encR 0#7 rs2 rs1 1#3 rd 0x33#7
  | .slt rd rs1 rs2 => encR 0#7 rs2 rs1 2#3 rd 0x33#7
  | .sltu rd rs1 rs2 => encR 0#7 rs2 rs1 3#3 rd 0x33#7
  | .xor rd rs1 rs2 => encR 0#7 rs2 rs1 4#3 rd 0x33#7
  | .or rd rs1 rs2 => encR 0#7 rs2 rs1 6#3 rd 0x33#7
  | .and rd rs1 rs2 => encR 0#7 rs2 rs1 7#3 rd 0x33#7
  | .srl rd rs1 rs2 => encR 0#7 rs2 rs1 5#3 rd 0x33#7
  | .sra rd rs1 rs2 => encR 0x20#7 rs2 rs1 5#3 rd 0x33#7
  | .mul rd rs1 rs2 => encR 1#7 rs2 rs1 0#3 rd 0x33#7
  | .mulh rd rs1 rs2 => encR 1#7 rs2 rs1 1#3 rd 0x33#7
  | .mulhsu rd rs1 rs2 => encR 1#7 rs2 rs1 2#3 rd 0x33#7
  | .mulhu rd rs1 rs2 => encR 1#7 rs2 rs1 3#3 rd 0x33#7
  | .div rd rs1 rs2 => encR 1#7 rs2 rs1 4#3 rd 0x33#7
  | .divu rd rs1 rs2 => encR 1#7 rs2 rs1 5#3 rd 0x33#7
  | .rem rd rs1 rs2 => encR 1#7 rs2 rs1 6#3 rd 0x33#7
  | .remu rd rs1 rs2 => encR 1#7 rs2 rs1 7#3 rd 0x33#7
  | .beq rs1 rs2 imm => encB imm rs2 rs1 0#3
  | .bne rs1 rs2 imm => encB imm rs2 rs1 1#3
  | .blt rs1 rs2 imm => encB imm rs2 rs1 4#3
  | .bge rs1 rs2 imm => encB imm rs2 rs1 5#3
  | .bltu rs1 rs2 imm => encB imm rs2 rs1 6#3
  | .bgeu rs1 rs2 imm => encB imm rs2 rs1 7#3
  | .jal rd imm => encJ imm rd
  | .jalr rd rs1 imm => encI (low12 imm) rs1 0#3 rd 0x67#7
  | .lrW rd rs1 aq rl => encAmo 2#5 aq rl 0#5 rs1 rd
  | .scW rd rs1 rs2 aq rl => encAmo 3#5 aq rl rs2 rs1 rd
  | .amoswapW rd rs1 rs2 aq rl => encAmo 1#5 aq rl rs2 rs1 rd
  | .amoaddW rd rs1 rs2 aq rl => encAmo 0#5 aq rl rs2 rs1 rd
  | .amoxorW rd rs1 rs2 aq rl => encAmo 4#5 aq rl rs2 rs1 rd
  | .amoandW rd rs1 rs2 aq rl => encAmo 12#5 aq rl rs2 rs1 rd
  | .amoorW rd rs1 rs2 aq rl => encAmo 8#5 aq rl rs2 rs1 rd
  | .amominW rd rs1 rs2 aq rl => encAmo 16#5 aq rl rs2 rs1 rd
  | .amomaxW rd rs1 rs2 aq rl => encAmo 20#5 aq rl rs2 rs1 rd
  | .amominuW rd rs1 rs2 aq rl => encAmo 24#5 aq rl rs2 rs1 rd
  | .amomaxuW rd rs1 rs2 aq rl => encAmo 28#5 aq rl rs2 rs1 rd
  | .fence fm pred succ => encI (fm ++ pred ++ succ) 0#5 0#3 0#5 0x0f#7
  | .fenceI => encMiscMem 1#3
  | .miscMemF2 => encMiscMem 2#3
  | .miscMemF3 => encMiscMem 3#3
  | .miscMemF4 => encMiscMem 4#3
  | .miscMemF5 => encMiscMem 5#3
  | .miscMemF6 => encMiscMem 6#3
  | .miscMemF7 => encMiscMem 7#3
  | .ecall => encI 0x000#12 0#5 0#3 0#5 0x73#7
  | .ebreak => encI 0x001#12 0#5 0#3 0#5 0x73#7
  | .mret => encI 0x302#12 0#5 0#3 0#5 0x73#7
  | .wfi => encI 0x105#12 0#5 0#3 0#5 0x73#7
  | .csrrw rd rs1 csr => encI csr rs1 1#3 rd 0x73#7
  | .csrrs rd rs1 csr => encI csr rs1 2#3 rd 0x73#7
  | .csrrc rd rs1 csr => encI csr rs1 3#3 rd 0x73#7
  | .csrrwi rd zimm csr => encI csr zimm 5#3 rd 0x73#7
  | .csrrsi rd zimm csr => encI csr zimm 6#3 rd 0x73#7
  | .csrrci rd zimm csr => encI csr zimm 7#3 rd 0x73#7

/-! ## The opcode table as data -/

/-- One row of spec/opcode_table.json: a word is the row's instruction when its bits under the mask are the match. -/
structure OpcodeRow where
  mnemonic : String
  matchBits : Word
  mask : Word
  deriving DecidableEq, Repr

/-- A word matches a row (R128, R131). -/
def rowMatches (r : OpcodeRow) (w : Word) : Bool := w &&& r.mask == r.matchBits

/-- Rows of spec/opcode_table.json: upper immediates (R150, R151). -/
def opcodeTableUpper : List OpcodeRow := [
  ⟨"LUI", 0x00000037#32, 0x0000007f#32⟩,
  ⟨"AUIPC", 0x00000017#32, 0x0000007f#32⟩]

/-- Rows of spec/opcode_table.json: loads and stores (R161 to R168). -/
def opcodeTableMem : List OpcodeRow := [
  ⟨"LB", 0x00000003#32, 0x0000707f#32⟩,
  ⟨"LH", 0x00001003#32, 0x0000707f#32⟩,
  ⟨"LW", 0x00002003#32, 0x0000707f#32⟩,
  ⟨"LBU", 0x00004003#32, 0x0000707f#32⟩,
  ⟨"LHU", 0x00005003#32, 0x0000707f#32⟩,
  ⟨"SB", 0x00000023#32, 0x0000707f#32⟩,
  ⟨"SH", 0x00001023#32, 0x0000707f#32⟩,
  ⟨"SW", 0x00002023#32, 0x0000707f#32⟩]

/-- Rows of spec/opcode_table.json: register-immediate (R181 to R189). -/
def opcodeTableOpImm : List OpcodeRow := [
  ⟨"ADDI", 0x00000013#32, 0x0000707f#32⟩,
  ⟨"SLTI", 0x00002013#32, 0x0000707f#32⟩,
  ⟨"SLTIU", 0x00003013#32, 0x0000707f#32⟩,
  ⟨"XORI", 0x00004013#32, 0x0000707f#32⟩,
  ⟨"ORI", 0x00006013#32, 0x0000707f#32⟩,
  ⟨"ANDI", 0x00007013#32, 0x0000707f#32⟩,
  ⟨"SLLI", 0x00001013#32, 0x0000707f#32⟩,
  ⟨"SRLI", 0x00005013#32, 0x4000707f#32⟩,
  ⟨"SRAI", 0x40005013#32, 0x4000707f#32⟩]

/-- Rows of spec/opcode_table.json: register-register (R190 to R199). -/
def opcodeTableOp : List OpcodeRow := [
  ⟨"ADD", 0x00000033#32, 0x4200707f#32⟩,
  ⟨"SUB", 0x40000033#32, 0x4200707f#32⟩,
  ⟨"SLL", 0x00001033#32, 0x0200707f#32⟩,
  ⟨"SLT", 0x00002033#32, 0x0200707f#32⟩,
  ⟨"SLTU", 0x00003033#32, 0x0200707f#32⟩,
  ⟨"XOR", 0x00004033#32, 0x0200707f#32⟩,
  ⟨"OR", 0x00006033#32, 0x0200707f#32⟩,
  ⟨"AND", 0x00007033#32, 0x0200707f#32⟩,
  ⟨"SRL", 0x00005033#32, 0x4200707f#32⟩,
  ⟨"SRA", 0x40005033#32, 0x4200707f#32⟩]

/-- Rows of spec/opcode_table.json: multiply and divide (R211 to R218). -/
def opcodeTableMulDiv : List OpcodeRow := [
  ⟨"MUL", 0x02000033#32, 0x0200707f#32⟩,
  ⟨"MULH", 0x02001033#32, 0x0200707f#32⟩,
  ⟨"MULHSU", 0x02002033#32, 0x0200707f#32⟩,
  ⟨"MULHU", 0x02003033#32, 0x0200707f#32⟩,
  ⟨"DIV", 0x02004033#32, 0x0200707f#32⟩,
  ⟨"DIVU", 0x02005033#32, 0x0200707f#32⟩,
  ⟨"REM", 0x02006033#32, 0x0200707f#32⟩,
  ⟨"REMU", 0x02007033#32, 0x0200707f#32⟩]

/-- Rows of spec/opcode_table.json: branches and jumps (R231 to R238). -/
def opcodeTableControl : List OpcodeRow := [
  ⟨"BEQ", 0x00000063#32, 0x0000707f#32⟩,
  ⟨"BNE", 0x00001063#32, 0x0000707f#32⟩,
  ⟨"BLT", 0x00004063#32, 0x0000707f#32⟩,
  ⟨"BGE", 0x00005063#32, 0x0000707f#32⟩,
  ⟨"BLTU", 0x00006063#32, 0x0000707f#32⟩,
  ⟨"BGEU", 0x00007063#32, 0x0000707f#32⟩,
  ⟨"JAL", 0x0000006f#32, 0x0000007f#32⟩,
  ⟨"JALR", 0x00000067#32, 0x0000007f#32⟩]

/-- Rows of spec/opcode_table.json: atomics (R252 to R262). -/
def opcodeTableAtomic : List OpcodeRow := [
  ⟨"LR.W", 0x1000002f#32, 0xf800007f#32⟩,
  ⟨"SC.W", 0x1800002f#32, 0xf800007f#32⟩,
  ⟨"AMOSWAP.W", 0x0800002f#32, 0xf800007f#32⟩,
  ⟨"AMOADD.W", 0x0000002f#32, 0xf800007f#32⟩,
  ⟨"AMOXOR.W", 0x2000002f#32, 0xf800007f#32⟩,
  ⟨"AMOAND.W", 0x6000002f#32, 0xf800007f#32⟩,
  ⟨"AMOOR.W", 0x4000002f#32, 0xf800007f#32⟩,
  ⟨"AMOMIN.W", 0x8000002f#32, 0xf800007f#32⟩,
  ⟨"AMOMAX.W", 0xa000002f#32, 0xf800007f#32⟩,
  ⟨"AMOMINU.W", 0xc000002f#32, 0xf800007f#32⟩,
  ⟨"AMOMAXU.W", 0xe000002f#32, 0xf800007f#32⟩]

/-- Rows of spec/opcode_table.json: fences (R270 to R272). -/
def opcodeTableFence : List OpcodeRow := [
  ⟨"FENCE", 0x0000000f#32, 0x0000707f#32⟩,
  ⟨"FENCE.I", 0x0000100f#32, 0x0000707f#32⟩,
  ⟨"MISC-MEM.f2", 0x0000200f#32, 0x0000707f#32⟩,
  ⟨"MISC-MEM.f3", 0x0000300f#32, 0x0000707f#32⟩,
  ⟨"MISC-MEM.f4", 0x0000400f#32, 0x0000707f#32⟩,
  ⟨"MISC-MEM.f5", 0x0000500f#32, 0x0000707f#32⟩,
  ⟨"MISC-MEM.f6", 0x0000600f#32, 0x0000707f#32⟩,
  ⟨"MISC-MEM.f7", 0x0000700f#32, 0x0000707f#32⟩]

/-- Rows of spec/opcode_table.json: system (R273 to R283). -/
def opcodeTableSystem : List OpcodeRow := [
  ⟨"ECALL", 0x00000073#32, 0xfff0707f#32⟩,
  ⟨"EBREAK", 0x00100073#32, 0xfff0707f#32⟩,
  ⟨"MRET", 0x00200073#32, 0x0ff0707f#32⟩,
  ⟨"WFI", 0x10500073#32, 0xfff0707f#32⟩,
  ⟨"CSRRW", 0x00001073#32, 0x0000707f#32⟩,
  ⟨"CSRRS", 0x00002073#32, 0x0000707f#32⟩,
  ⟨"CSRRC", 0x00003073#32, 0x0000707f#32⟩,
  ⟨"CSRRWI", 0x00005073#32, 0x0000707f#32⟩,
  ⟨"CSRRSI", 0x00006073#32, 0x0000707f#32⟩,
  ⟨"CSRRCI", 0x00007073#32, 0x0000707f#32⟩]

/-- spec/opcode_table.json, in its order. -/
def opcodeTable : List OpcodeRow :=
  opcodeTableUpper ++ opcodeTableMem ++ opcodeTableOpImm ++ opcodeTableOp ++ opcodeTableMulDiv
    ++ opcodeTableControl ++ opcodeTableAtomic ++ opcodeTableFence ++ opcodeTableSystem

/-- The row's mnemonic, letter for letter. -/
def Instr.mnemonic : Instr → String
  | .lui _ _ => "LUI"
  | .auipc _ _ => "AUIPC"
  | .lb _ _ _ => "LB"
  | .lh _ _ _ => "LH"
  | .lw _ _ _ => "LW"
  | .lbu _ _ _ => "LBU"
  | .lhu _ _ _ => "LHU"
  | .sb _ _ _ => "SB"
  | .sh _ _ _ => "SH"
  | .sw _ _ _ => "SW"
  | .addi _ _ _ => "ADDI"
  | .slti _ _ _ => "SLTI"
  | .sltiu _ _ _ => "SLTIU"
  | .xori _ _ _ => "XORI"
  | .ori _ _ _ => "ORI"
  | .andi _ _ _ => "ANDI"
  | .slli _ _ _ => "SLLI"
  | .srli _ _ _ => "SRLI"
  | .srai _ _ _ => "SRAI"
  | .add _ _ _ => "ADD"
  | .sub _ _ _ => "SUB"
  | .sll _ _ _ => "SLL"
  | .slt _ _ _ => "SLT"
  | .sltu _ _ _ => "SLTU"
  | .xor _ _ _ => "XOR"
  | .or _ _ _ => "OR"
  | .and _ _ _ => "AND"
  | .srl _ _ _ => "SRL"
  | .sra _ _ _ => "SRA"
  | .mul _ _ _ => "MUL"
  | .mulh _ _ _ => "MULH"
  | .mulhsu _ _ _ => "MULHSU"
  | .mulhu _ _ _ => "MULHU"
  | .div _ _ _ => "DIV"
  | .divu _ _ _ => "DIVU"
  | .rem _ _ _ => "REM"
  | .remu _ _ _ => "REMU"
  | .beq _ _ _ => "BEQ"
  | .bne _ _ _ => "BNE"
  | .blt _ _ _ => "BLT"
  | .bge _ _ _ => "BGE"
  | .bltu _ _ _ => "BLTU"
  | .bgeu _ _ _ => "BGEU"
  | .jal _ _ => "JAL"
  | .jalr _ _ _ => "JALR"
  | .lrW _ _ _ _ => "LR.W"
  | .scW _ _ _ _ _ => "SC.W"
  | .amoswapW _ _ _ _ _ => "AMOSWAP.W"
  | .amoaddW _ _ _ _ _ => "AMOADD.W"
  | .amoxorW _ _ _ _ _ => "AMOXOR.W"
  | .amoandW _ _ _ _ _ => "AMOAND.W"
  | .amoorW _ _ _ _ _ => "AMOOR.W"
  | .amominW _ _ _ _ _ => "AMOMIN.W"
  | .amomaxW _ _ _ _ _ => "AMOMAX.W"
  | .amominuW _ _ _ _ _ => "AMOMINU.W"
  | .amomaxuW _ _ _ _ _ => "AMOMAXU.W"
  | .fence _ _ _ => "FENCE"
  | .fenceI => "FENCE.I"
  | .miscMemF2 => "MISC-MEM.f2"
  | .miscMemF3 => "MISC-MEM.f3"
  | .miscMemF4 => "MISC-MEM.f4"
  | .miscMemF5 => "MISC-MEM.f5"
  | .miscMemF6 => "MISC-MEM.f6"
  | .miscMemF7 => "MISC-MEM.f7"
  | .ecall => "ECALL"
  | .ebreak => "EBREAK"
  | .mret => "MRET"
  | .wfi => "WFI"
  | .csrrw _ _ _ => "CSRRW"
  | .csrrs _ _ _ => "CSRRS"
  | .csrrc _ _ _ => "CSRRC"
  | .csrrwi _ _ _ => "CSRRWI"
  | .csrrsi _ _ _ => "CSRRSI"
  | .csrrci _ _ _ => "CSRRCI"

end Sys2Proof
end

