-- ==== Sys2Proof/Machine/Fetch.lean ====
section
/-!
DEFINITION. One instruction attempt up to its meaning (spec/60_exceptions.md R300, R305, R313): the running cycle count, the
fetch (spec/20_memory.md R79), decoding, and the exceptions that come before any meaning (R314).
-/

namespace Sys2Proof.Machine

/-- What a fetch gives (R79). -/
inductive Fetched where
  | word (w : Word)
  | fault (e : Exc)
  deriving DecidableEq, Repr

/-- The byte the fetch reads at `pc + k`: a byte of RAM, or past the end of RAM a free value (R74, R79, log entry 9). -/
def State.fetchByte (s : State) (k : Nat) : Byte :=
  if inRam s.cfg (s.pc.toNat + k) then readByte s.mem (s.pc.toNat + k) else Config.byteBeyondRam s.draws k

/-- `RamRead(off, 4)` of the fetch, least significant byte first (R74, R79). -/
def State.fetchWord (s : State) : Word := s.fetchByte 3 ++ s.fetchByte 2 ++ s.fetchByte 1 ++ s.fetchByte 0

/-- The whole word at the pc lies in RAM: always so when `RAM_BASE` is a multiple of 4 and the fetch raises nothing (R79). -/
def State.wholeFetch (s : State) : Bool := decide ((s.pc - s.cfg.ramBase).toNat + 4 ≤ s.cfg.ramSize)

/-- A fetch that ran past the end of RAM has drawn a free value. -/
def State.drawFetch (s : State) : State := { s with draws := if s.wholeFetch then s.draws else s.draws + 1 }

/-- `Fetch(pc)`: RAM only, the range before the alignment, little-endian (R79); `RAM_TAIL_GUARD` does not apply. -/
def State.fetch (s : State) : Fetched :=
  if s.cfg.ramSize ≤ (s.pc - s.cfg.ramBase).toNat then .fault .instrAccessFault
  else if s.pc.toNat % 4 ≠ 0 then .fault .instrAddressMisaligned
  else .word s.fetchWord

/-- The start of an attempt: `c <- c + 1`, one attempt fewer left, and `insn` is the fetched word (R300, R305). -/
def State.beginAttempt (s : State) (left : Nat) (insn : Word) : State :=
  { s with runCycle := s.runCycle + 1#32, call := some left, insn := insn }

/-- The trap value of an illegal instruction (R312, `MTVAL_ON_ILLEGAL`). -/
def State.illegalTval (s : State) : Word :=
  match s.cfg.mtvalOnIllegal with
  | .pc => s.pc
  | .insn => s.insn

/-- What an attempt comes to before its meaning: an instruction to execute, or an exception taken. -/
inductive Attempt where
  | run (i : Instr) (s : State)
  | done (s : State)

/-- An attempt with `left` attempts left after it: fetch, then decode (R300, R314). -/
def State.attempt (s : State) (left : Nat) : Attempt :=
  match s.fetch with
  | .fault e => .done ((s.beginAttempt left 0#32).raise e s.pc)
  | .word w =>
    match decode w with
    | .ok i => .run i (s.drawFetch.beginAttempt left w)
    | .error _ =>
      .done ((s.drawFetch.beginAttempt left w).raise .illegalInstruction (s.drawFetch.beginAttempt left w).illegalTval)

/-- The bytes of an instruction at their guest addresses, lowest first (R73). -/
def bytesAt (a : Nat) : List Byte → List Host.Cell
  | [] => []
  | b :: t => (a, b) :: bytesAt (a + 1) t

/-- The first aligned address of RAM. -/
def firstWordAddr (c : Config) : Word := BitVec.ofNat 32 ((c.ramBase.toNat + 3) / 4 * 4)

/-- Where the next fetch can read a whole word: the pc, or the first aligned address of RAM when no whole word of RAM lies
at the pc. -/
def State.fetchPc (s : State) : Word :=
  match s.fetch with
  | .word _ => if s.wholeFetch then s.pc else firstWordAddr s.cfg
  | .fault _ => firstWordAddr s.cfg

/-- A state in which the very next step attempts the instruction at the pc: the run goes on, and a step call with at least
one attempt left is in progress. -/
def State.inLoop (s : State) : State :=
  { s with
    status := .running
    call := match s.call with
      | some (n + 1) => some (n + 1)
      | some 0 => some 1
      | none => some 1
    pc := s.fetchPc }

/-- An instruction's word, numbered as spec/opcode_table.json numbers it, placed where the next step fetches it. -/
def State.placeWord (s : State) (nbits w : Nat) : State :=
  { s.inLoop with mem := hostWrites s.cfg (bytesAt s.fetchPc.toNat (bytesOfWord (tableWord nbits w))) s.mem }

end Sys2Proof.Machine
end

