-- ==== Sys2Proof/Machine/Step.lean ====
section
/-!
DEFINITION. One step of the machine (spec/60_exceptions.md R300): between two step calls it is the start of the next call;
inside a call it is one instruction attempt, or, when `count` attempts have been made, the commit and the return Normal.
-/

namespace Sys2Proof.Machine

/-- One instruction attempt: the exception it comes to before its meaning, or its meaning. -/
def runAttempt : Attempt → Host.Outcome State Fault Refusal
  | .run i s => exec i s
  | .done s => .next s

/-- A step of a run that goes on (R300). -/
def stepRunning (s : State) : Host.Outcome State Fault Refusal :=
  match s.call with
  | none => .next s.beginCall
  | some 0 => .next s.returnNormal
  | some (left + 1) => runAttempt (s.attempt left)

/-- One step. A run that has ended is stuck (R56, U9); a configuration outside R7's constraints is no machine. -/
def step (s : State) : Host.Outcome State Fault Refusal :=
  if s.cfg.ok then
    match s.status with
    | .running => stepRunning s
    | .aborted _ => .fault .runEnded
    | .hostStopped _ => .fault .runEnded
  else .fault .configInvalid

/-- `s` with an instruction stored where the next step fetches it, so that the very next step runs exactly it (log entry 1). -/
def State.withFetchWord (s : State) (nbits w : Nat) : State := s.placeWord nbits w

end Sys2Proof.Machine
end

