-- ==== Sys2Proof/Safety.lean ====
section
/-!
DEFINITION. The terms in which claims are made: the invariant of the machine, what an instruction's result leaves changed
and unchanged, what taking an exception comes to under the fault policy, and which bits of a word the decoder ignores.
-/

namespace Sys2Proof.Machine

/-- RAM is in its canonical form and lists addresses of RAM only. -/
def MemoryOk (c : Config) (m : Memory) : Prop :=
  memoryWf m = true ∧ ∀ e ∈ m, inRam c e.1 = true

/-- The machine's invariant: RAM is canonical; no step call is in progress once the run has ended (R56); and none is in
progress while the WFI latch is set, since a sleeping core executes nothing (R303, R325). -/
def State.Inv (s : State) : Prop :=
  MemoryOk s.cfg s.mem ∧ (s.status ≠ .running → s.call = none) ∧ (s.wfi = true → s.call = none)

/-- `exec` answers a next state, and it is one that `P` holds of. -/
def Answers (i : Instr) (s : State) (P : State → Prop) : Prop :=
  ∃ t, exec i s = .next t ∧ P t

/-- The registers of `t` are those of `s`, but that `rd` holds `v`; x0 reads 0 as ever (R31). -/
def RegsAfter (s t : State) (rd : RegIx) (v : Word) : Prop :=
  ∀ r, t.x r = if r = rd ∧ r ≠ 0#5 then v else s.x r

/-- The whole effect is `x[rd] <- v ; pc <- pc + 4`: every other register, every CSR, RAM and all else is unchanged. -/
def RegResult (s t : State) (rd : RegIx) (v : Word) : Prop :=
  t = { s with xregs := t.xregs, pc := s.pc + 4#32 } ∧ RegsAfter s t rd v

/-- The state after the trap of exception `e` at `s.pc` with trap value `tval`: the saved registers, the status, the mode,
the handler's address (R316), the hook's notification (R320), the committed cycle count and the call's return (R306, R307);
nothing else changes. -/
def TrapResult (s : State) (e : Exc) (tval : Word) (t : State) : Prop :=
  t = { s with
    mcause := excCode e
    mtval := tval
    mepc := s.pc
    mstatus := (((s.mstatus >>> 3) &&& 1#32) <<< 7) ||| (s.priv.setWidth 32 <<< 11)
    pc := s.mtvec
    priv := 3#2
    cycle := committed s.cycle s.runCycle
    call := none
    events := s.events ++ [.exception s.insn e, .returned .normal] }

/-- The state after exception `e` under FAIL_ON_ALL_FAULTS: the run ends, no trap CSR is written, no cycle committed (R320). -/
def AbortResult (s : State) (e : Exc) (t : State) : Prop :=
  t = { s with status := .aborted e, call := none, events := s.events ++ [.returned (.aborted e)] }

/-- The instruction raises `e` with trap value `tval`: it traps, or under FAIL_ON_ALL_FAULTS the run is aborted (R320). -/
def Faults (i : Instr) (s : State) (e : Exc) (tval : Word) : Prop :=
  (s.cfg.failOnAllFaults = false → Answers i s (TrapResult s e tval))
    ∧ (s.cfg.failOnAllFaults = true → Answers i s (AbortResult s e))

/-- What a fetch at the pc reads as one word: its four bytes, the lowest address least significant (R73, R79); a byte past
the end of RAM, which only a RAM_BASE that is no multiple of 4 lets a fetch reach, is a free value (log entry 9). -/
def FetchedWord (s : State) : Word :=
  let byte := fun k =>
    if s.cfg.ramBase.toNat ≤ s.pc.toNat + k ∧ s.pc.toNat + k < s.cfg.ramBase.toNat + s.cfg.ramSize then
      readByte s.mem (s.pc.toNat + k)
    else Config.byteBeyondRam s.draws k
  byte 3 ++ byte 2 ++ byte 1 ++ byte 0

/-- The state in which a fetched word's instruction runs: one more attempt counted, `n` attempts left, the word latched
(R300, R305); a fetch past the end of RAM has drawn a free value. -/
def AttemptState (s : State) (n : Nat) (w : Word) : State :=
  { s with
    runCycle := s.runCycle + 1#32
    call := some n
    insn := w
    draws := if (s.pc - s.cfg.ramBase).toNat + 4 ≤ s.cfg.ramSize then s.draws else s.draws + 1 }

/-- The whole effect of a CSR instruction on one of the core's own CSRs, both named by their fields (R38): the CSR holds
`f old`, `rd` the old value. -/
def CoreCsrResult (s : State) (rd : RegIx) (k : CoreCsr) (f : Word → Word) (t : State) : Prop :=
  let old := match k with
    | .mstatus => s.mstatus
    | .mie => s.mie
    | .mtvec => s.mtvec
    | .mscratch => s.mscratch
    | .mepc => s.mepc
    | .mcause => s.mcause
    | .mtval => s.mtval
    | .mip => s.mip
  let new := f old
  t = { s with
      xregs := t.xregs
      pc := s.pc + 4#32
      mstatus := if k = .mstatus then new else s.mstatus
      mie := if k = .mie then new else s.mie
      mtvec := if k = .mtvec then new else s.mtvec
      mscratch := if k = .mscratch then new else s.mscratch
      mepc := if k = .mepc then new else s.mepc
      mcause := if k = .mcause then new else s.mcause
      mtval := if k = .mtval then new else s.mtval
      mip := if k = .mip then new else s.mip }
    ∧ RegsAfter s t rd old

/-- The CSR numbers the core serves for reading and writing (the table of R38). -/
def coreCsrTable : List (CsrIx × CoreCsr) :=
  [(0x300#12, .mstatus), (0x304#12, .mie), (0x305#12, .mtvec), (0x340#12, .mscratch), (0x341#12, .mepc),
    (0x342#12, .mcause), (0x343#12, .mtval), (0x344#12, .mip)]

/-- What the host may have written in a hook call lies in RAM and is what its answer names: every other byte reads as
before (R340). -/
def OnlyNamedRamBytes (c : Config) (l : List Host.Cell) (m m' : Memory) : Prop :=
  ∀ a, inRam c a = false ∨ (∀ e ∈ l, e.1 ≠ a) → readByte m' a = readByte m a

/-- The whole effect of a CSR instruction on CSR 0xC00: `rd` holds the running cycle value, the write goes to the host,
which may write RAM; the counter does not change. -/
def CycleCsrResult (s : State) (rd : RegIx) (new : Word) (t : State) : Prop :=
  t = { s with
      xregs := t.xregs
      pc := s.pc + 4#32
      mem := hostWrites s.cfg s.reply.ram s.mem
      events := s.events ++ [.csrWrite csrCycle new]
      replies := t.replies
      draws := t.draws }
    ∧ RegsAfter s t rd s.runCycle ∧ OnlyNamedRamBytes s.cfg s.reply.ram s.mem t.mem

/-- The whole effect of a CSR instruction on a host CSR: one read hook, then one write hook with the value computed from
the host's answer; both may write RAM, nothing else changes. -/
def HostCsrResult (s : State) (rd : RegIx) (n : CsrIx) (new : Word) (t : State) : Prop :=
  t = { s with
      xregs := t.xregs
      pc := s.pc + 4#32
      mem := hostWrites s.cfg s.popReply.reply.ram (hostWrites s.cfg s.reply.ram s.mem)
      events := s.events ++ [.csrRead n, .csrWrite n new]
      replies := t.replies
      draws := t.draws }
    ∧ RegsAfter s t rd s.reply.value ∧ OnlyNamedRamBytes s.cfg (s.reply.ram ++ s.popReply.reply.ram) s.mem t.mem

/-- The bytes of a store of `n` bytes of `v` at `a`: each is the value's, and every other byte of memory reads as before. -/
def BytesStored (m m' : Memory) (a n : Nat) (v : Word) : Prop :=
  (∀ k, k < n → readByte m' (a + k) = v.extractLsb' (8 * k) 8)
    ∧ ∀ b, (b < a ∨ a + n ≤ b) → readByte m' b = readByte m b

/-- The whole effect of a store of the low `n` bytes of `v` to RAM at `a`. -/
def StoreResult (s : State) (a n : Nat) (v : Word) (t : State) : Prop :=
  t = { s with mem := t.mem, pc := s.pc + 4#32 } ∧ BytesStored s.mem t.mem a n v

/-- The whole effect of an atomic that writes RAM: the word at `a` holds `new`, `rd` the value `v`. -/
def AtomicResult (s : State) (a : Nat) (new : Word) (rd : RegIx) (v : Word) (t : State) : Prop :=
  t = { s with xregs := t.xregs, mem := t.mem, pc := s.pc + 4#32 }
    ∧ BytesStored s.mem t.mem a 4 new ∧ RegsAfter s t rd v

/-- Bits of a word that do not matter once it is known to be this instruction: the table of R127 (with the fields of FENCE
and the aq and rl of atomics, which are operands the core ignores: R270, R263). -/
def ignoredBits : Instr → Word
  | .jalr _ _ _ => 0x00007000#32
  | .slli _ _ _ => 0xfe000000#32
  | .srli _ _ _ | .srai _ _ _ => 0xbe000000#32
  | .sll _ _ _ | .slt _ _ _ | .sltu _ _ _ | .xor _ _ _ | .or _ _ _ | .and _ _ _ => 0xfc000000#32
  | .add _ _ _ | .sub _ _ _ | .srl _ _ _ | .sra _ _ _ => 0xbc000000#32
  | .mul _ _ _ | .mulh _ _ _ | .mulhsu _ _ _ | .mulhu _ _ _ => 0xfc000000#32
  | .div _ _ _ | .divu _ _ _ | .rem _ _ _ | .remu _ _ _ => 0xfc000000#32
  | .fence _ _ _ | .fenceI => 0xffff8f80#32
  | .miscMemF2 | .miscMemF3 | .miscMemF4 | .miscMemF5 | .miscMemF6 | .miscMemF7 => 0xffffff80#32
  | .ecall | .ebreak | .wfi => 0x000f8f80#32
  | .mret => 0xf00f8f80#32
  | .lrW _ _ _ _ => 0x07f07000#32
  | .scW _ _ _ _ _ | .amoswapW _ _ _ _ _ | .amoaddW _ _ _ _ _ | .amoxorW _ _ _ _ _ => 0x06007000#32
  | .amoandW _ _ _ _ _ | .amoorW _ _ _ _ _ | .amominW _ _ _ _ _ | .amomaxW _ _ _ _ _ => 0x06007000#32
  | .amominuW _ _ _ _ _ | .amomaxuW _ _ _ _ _ => 0x06007000#32
  | .lui _ _ | .auipc _ _ | .jal _ _ => 0#32
  | .lb _ _ _ | .lh _ _ _ | .lw _ _ _ | .lbu _ _ _ | .lhu _ _ _ | .sb _ _ _ | .sh _ _ _ | .sw _ _ _ => 0#32
  | .addi _ _ _ | .slti _ _ _ | .sltiu _ _ _ | .xori _ _ _ | .ori _ _ _ | .andi _ _ _ => 0#32
  | .beq _ _ _ | .bne _ _ _ | .blt _ _ _ | .bge _ _ _ | .bltu _ _ _ | .bgeu _ _ _ => 0#32
  | .csrrw _ _ _ | .csrrs _ _ _ | .csrrc _ _ _ | .csrrwi _ _ _ | .csrrsi _ _ _ | .csrrci _ _ _ => 0#32

/-- Two words agree but for the bits of a mask. -/
def agreeBut (mask w w' : Word) : Prop := w &&& ~~~mask = w' &&& ~~~mask

end Sys2Proof.Machine
end

