-- ==== Sys2Proof/Certificates/Slice0/Obligations.lean ====
section
/-!
DEFINITION. The statements for the provers, from the numbered rules of spec/.
-/

open Sys2Proof Sys2Proof.Machine

/-! ## Encoding (spec/30_encoding.md) -/

/-- R111 to R126: decoding an encoded well-formed instruction gives it back, for every instruction and every operand value
the encoding admits. -/
def Obligations.DecodeOfEncodeIsIdentity : Prop :=
  ∀ i : Instr, i.WellFormed → decode (encode i) = .ok i

/-- R113 to R117: what the decoder gives has an immediate of its format's range. -/
def Obligations.DecodedInstructionsAreWellFormed : Prop :=
  ∀ (w : Word) (i : Instr), decode w = .ok i → i.WellFormed

/-- R131, R128: every word decodes to exactly one row of the opcode table, or is illegal and matches no row. -/
def Obligations.DecodeAgreesWithOpcodeTable : Prop :=
  ∀ w : Word,
    (∃ i r, decode w = .ok i ∧ r ∈ opcodeTable ∧ r.mnemonic = i.mnemonic
        ∧ ∀ r' ∈ opcodeTable, rowMatches r' w = true ↔ r' = r)
      ∨ ((∃ e, decode w = .error e) ∧ ∀ r ∈ opcodeTable, rowMatches r w = false)

/-- R127: changing ignored bits of a legal word changes nothing of what it does, in any state. -/
def Obligations.IgnoredFieldsDoNotMatter : Prop :=
  ∀ (w w' : Word) (i : Instr), decode w = .ok i → agreeBut (ignoredBits i) w w' →
    ∃ i', decode w' = .ok i' ∧ ∀ s, exec i' s = exec i s

/-- A few words of the spec's examples, one per family, decode to their instructions. -/
def Obligations.SpecExampleWordsDecode : Prop :=
  decode 0x123452b7#32 = .ok (.lui 5#5 0x12345000#32)
    ∧ decode 0x00251283#32 = .ok (.lh 5#5 10#5 2#32)
    ∧ decode 0xfeb52e23#32 = .ok (.sw 10#5 11#5 0xfffffffc#32)
    ∧ decode 0xfff43513#32 = .ok (.sltiu 10#5 8#5 0xffffffff#32)
    ∧ decode 0x4042d513#32 = .ok (.srai 10#5 5#5 4#5)
    ∧ decode 0x40800533#32 = .ok (.sub 10#5 0#5 8#5)
    ∧ decode 0x0273a533#32 = .ok (.mulhsu 10#5 7#5 7#5)
    ∧ decode 0xfe6298e3#32 = .ok (.bne 5#5 6#5 0xfffffff0#32)
    ∧ decode 0xfc1ff06f#32 = .ok (.jal 0#5 0xffffffc0#32)
    ∧ decode 0x18b522af#32 = .ok (.scW 5#5 10#5 11#5 false false)
    ∧ decode 0x0ff0000f#32 = .ok (.fence 0#4 15#4 15#4)
    ∧ decode 0x340fd2f3#32 = .ok (.csrrwi 5#5 31#5 0x340#12)
    ∧ decode 0x30200073#32 = .ok .mret

/-! ## Reset and the invariant -/

/-- R350, R353: the reset state, for every configuration and every RAM image the host loaded (its bytes in order, a later one
over an earlier). That x1 to x9 and x12 to x31 are 0 is a choice (log entry 8: R350 gives it beside the option to leave them
unspecified), and so is that a byte of RAM the host did not load is 0 (log entry 5: R353 has it of general knowledge). -/
def Obligations.ResetState : Prop :=
  ∀ (c : Config) (image : List Host.Cell),
    let s := State.resetWith c image
    (∀ r : RegIx, s.x r = if r = 11#5 then c.dtbAddr else 0#32)
      ∧ s.pc = c.resetPc
      ∧ s.mstatus = 0#32 ∧ s.mie = 0#32 ∧ s.mip = 0#32 ∧ s.mtvec = 0#32
      ∧ s.mscratch = 0#32 ∧ s.mepc = 0#32 ∧ s.mcause = 0#32 ∧ s.mtval = 0#32
      ∧ s.cycle = 0#64 ∧ s.timer = 0#64 ∧ s.timermatch = 0#64
      ∧ s.extraflags = 3#32 ∧ s.priv = 3#2 ∧ s.wfi = false ∧ s.resv = 0#29
      ∧ s.status = .running
      ∧ ∀ a, inRam c a = true →
          readByte s.mem a = ((image.reverse.find? (fun e => e.1 == a)).map Prod.snd).getD 0#8

/-- Every reset state meets the invariant, and no step call is in progress in it: it is the state before the first one
(R350). -/
def Obligations.ResetMeetsInvariant : Prop :=
  ∀ (c : Config) (image : List Host.Cell), (State.resetWith c image).Inv ∧ (State.resetWith c image).call = none

/-- Every step keeps the invariant: RAM stays canonical and within RAM, no call is in progress once the run has ended, and
none while the core sleeps. -/
def Obligations.StepKeepsInvariant : Prop :=
  ∀ s t : State, s.Inv → step s = .next t → t.Inv

/-- R8: the configuration is fixed for the whole run. -/
def Obligations.StepKeepsConfiguration : Prop :=
  ∀ s t : State, step s = .next t → t.cfg = s.cfg

/-- R31: x0 reads zero in every state, and a write to it changes nothing at all. -/
def Obligations.RegisterZeroIsHardwired : Prop :=
  (∀ s : State, s.x 0#5 = 0#32) ∧ ∀ (s : State) (v : Word), s.setX 0#5 v = s

/-! ## The step call (spec/60_exceptions.md) -/

/-- R300, R79: inside a call with attempts left, when the word fetched at an aligned pc in RAM decodes to `i`, the step is
`exec i` on the state whose running cycle count has advanced by one, with one attempt fewer left and the word latched. When
the whole word lies in RAM its four bytes are bytes of RAM. A byte past the end of RAM, which only a RAM_BASE that is no
multiple of 4 lets a fetch reach, is a free value (the model's choice, log entry 9). -/
def Obligations.StepRunsDecodedInstruction : Prop :=
  ∀ (s : State) (n : Nat) (i : Instr),
    s.cfg.ok = true → s.status = .running → s.call = some (n + 1) →
    (s.pc - s.cfg.ramBase).toNat < s.cfg.ramSize → s.pc.toNat % 4 = 0 →
    (decode (FetchedWord s) = .ok i → step s = exec i (AttemptState s n (FetchedWord s)))
      ∧ ((s.pc - s.cfg.ramBase).toNat + 4 ≤ s.cfg.ramSize →
        let w := readByte s.mem (s.pc.toNat + 3) ++ readByte s.mem (s.pc.toNat + 2) ++ readByte s.mem (s.pc.toNat + 1)
          ++ readByte s.mem s.pc.toNat
        decode w = .ok i →
        step s = exec i { s with runCycle := s.runCycle + 1#32, call := some n, insn := w })

/-- R79, R313, R314: a pc outside RAM raises cause 1, a misaligned pc in RAM cause 0; the trap value is the pc, the hook is
told the word 0, and the attempt is counted. -/
def Obligations.FetchFaultsTrap : Prop :=
  ∀ (s : State) (n : Nat), s.cfg.ok = true → s.status = .running → s.call = some (n + 1) →
    s.cfg.failOnAllFaults = false →
    let s' := { s with runCycle := s.runCycle + 1#32, call := some n, insn := 0#32 }
    (s.cfg.ramSize ≤ (s.pc - s.cfg.ramBase).toNat →
        ∃ t, step s = .next t ∧ TrapResult s' .instrAccessFault s.pc t)
      ∧ ((s.pc - s.cfg.ramBase).toNat < s.cfg.ramSize → s.pc.toNat % 4 ≠ 0 →
        ∃ t, step s = .next t ∧ TrapResult s' .instrAddressMisaligned s.pc t)
      ∧ excCode .instrAddressMisaligned = 0#32 ∧ excCode .instrAccessFault = 1#32

/-- R128, R312: a fetched word that matches no row of the opcode table raises cause 2; the trap value is the pc, or the word
under MTVAL_ON_ILLEGAL = insn. That a byte fetched past the end of RAM, which only a RAM_BASE that is no multiple of 4 lets a
fetch reach, is a free value is the model's choice (log entry 9). -/
def Obligations.IllegalWordsTrap : Prop :=
  ∀ (s : State) (n : Nat), s.cfg.ok = true → s.status = .running → s.call = some (n + 1) →
    s.cfg.failOnAllFaults = false →
    (s.pc - s.cfg.ramBase).toNat < s.cfg.ramSize → s.pc.toNat % 4 = 0 →
    let w := FetchedWord s
    ((∀ r ∈ opcodeTable, rowMatches r w = false) →
      ∃ t, step s = .next t ∧
        TrapResult (AttemptState s n w) .illegalInstruction
          (match s.cfg.mtvalOnIllegal with
            | .pc => s.pc
            | .insn => w) t)
      ∧ excCode .illegalInstruction = 2#32

/-- R320: under FAIL_ON_ALL_FAULTS fetch faults and illegal words abort the run too, with no trap CSR written and no cycle
committed. In the third clause, that a byte fetched past the end of RAM, which only a RAM_BASE that is no multiple of 4 lets a
fetch reach, is a free value is the model's choice (log entry 9). -/
def Obligations.FetchAndDecodeFaultsAbort : Prop :=
  ∀ (s : State) (n : Nat), s.cfg.ok = true → s.status = .running → s.call = some (n + 1) →
    s.cfg.failOnAllFaults = true →
    let w := FetchedWord s
    let unfetched := { s with runCycle := s.runCycle + 1#32, call := some n, insn := 0#32 }
    (s.cfg.ramSize ≤ (s.pc - s.cfg.ramBase).toNat →
        ∃ t, step s = .next t ∧ AbortResult unfetched .instrAccessFault t)
      ∧ ((s.pc - s.cfg.ramBase).toNat < s.cfg.ramSize → s.pc.toNat % 4 ≠ 0 →
        ∃ t, step s = .next t ∧ AbortResult unfetched .instrAddressMisaligned t)
      ∧ ((s.pc - s.cfg.ramBase).toNat < s.cfg.ramSize → s.pc.toNat % 4 = 0 →
        (∀ r ∈ opcodeTable, rowMatches r w = false) →
        ∃ t, step s = .next t ∧ AbortResult (AttemptState s n w) .illegalInstruction t)

/-- R56, U9: once the run has ended no further step call is modelled. That the step then faults under the name runEnded is
the model's choice (log entry 11). -/
def Obligations.EndedRunIsStuck : Prop :=
  ∀ s : State, s.cfg.ok = true →
    (∀ e, s.status = .aborted e → step s = .fault .runEnded)
      ∧ ∀ v, s.status = .hostStopped v → step s = .fault .runEnded

/-- R300, R306: when `count` attempts have been made the call commits its cycle count and returns Normal; nothing else
changes. That this is a step of its own is the model's choice (log entry 10). -/
def Obligations.LoopEndCommitsAndReturns : Prop :=
  ∀ s : State, s.cfg.ok = true → s.status = .running → s.call = some 0 →
    step s = .next { s with
      cycle := committed s.cycle s.runCycle
      call := none
      events := s.events ++ [.returned .normal] }

/-- R44, R306: committing after `k` attempts of a call (fewer than 2^32) adds `k` to the 64-bit count, the carry included. -/
def Obligations.CommitAddsAttempts : Prop :=
  ∀ (cycle : BitVec 64) (k : Nat), k < 2 ^ 32 →
    committed cycle (cycle.extractLsb' 0 32 + BitVec.ofNat 32 k) = cycle + BitVec.ofNat 64 k

/-- R301, R302: at the start of a call the timer advances by the elapsed microseconds modulo 2^64; MTIP is then 1 exactly
when the match is not 0 and the timer has reached it, every other bit of `mip` is kept, and the WFI latch is cleared exactly
then; nothing else changes. -/
def Obligations.TimerComparison : Prop :=
  ∀ (s : State) (us : Word),
    let t := s.tick us
    let fires := s.timermatch ≠ 0#64 ∧ s.timermatch.toNat ≤ (s.timer.toNat + us.toNat) % 2 ^ 64
    t.timer.toNat = (s.timer.toNat + us.toNat) % 2 ^ 64
      ∧ (t.mip.getLsbD 7 = true ↔ fires)
      ∧ (∀ b, b ≠ 7 → t.mip.getLsbD b = s.mip.getLsbD b)
      ∧ (t.wfi = true ↔ s.wfi = true ∧ ¬fires)
      ∧ t = { s with timer := t.timer, mip := t.mip, wfi := t.wfi }

/-- R303: if the WFI latch is still set after the timer comparison, the call returns Sleeping at once. -/
def Obligations.SleepingCoreExecutesNothing : Prop :=
  ∀ s : State, s.cfg.ok = true → s.status = .running → s.call = none →
    let t := (s.nextCall.edits.foldl State.edit s.popCall).tick s.nextCall.elapsedUs
    t.wfi = true →
    step s = .next { t with call := none, events := t.events ++ [.returned .sleeping] }

/-- R304, R316, R319: the timer interrupt is taken exactly when MTIP, MTIE and MIE are all 1 at the start of a call, before
the first instruction: the call executes no instruction, `mcause` is 0x80000007, `mepc` the next instruction's address,
`mtval` 0, the cycle count is unchanged, and the call returns Normal. -/
def Obligations.TimerInterruptTaken : Prop :=
  ∀ s : State, s.cfg.ok = true → s.status = .running → s.call = none →
    let t := (s.nextCall.edits.foldl State.edit s.popCall).tick s.nextCall.elapsedUs
    t.wfi = false → t.mip.getLsbD 7 = true → t.mie.getLsbD 7 = true → t.mstatus.getLsbD 3 = true →
    ∃ u, step s = .next u ∧ u = { t with
      mcause := 0x80000007#32
      mtval := 0#32
      mepc := t.pc
      mstatus := 0x80#32 ||| (t.priv.setWidth 32 <<< 11)
      pc := t.mtvec
      priv := 3#2
      call := none
      runCycle := t.cycle.extractLsb' 0 32
      events := t.events ++ [.returned .normal] }

/-- R304, R305: with the latch clear and one of MTIP, MTIE and MIE 0 no interrupt is taken: the call enters its loop with
`count` attempts, whatever the privilege level. -/
def Obligations.CallEntersLoop : Prop :=
  ∀ s : State, s.cfg.ok = true → s.status = .running → s.call = none →
    let t := (s.nextCall.edits.foldl State.edit s.popCall).tick s.nextCall.elapsedUs
    t.wfi = false → ¬(t.mip.getLsbD 7 = true ∧ t.mie.getLsbD 7 = true ∧ t.mstatus.getLsbD 3 = true) →
    step s = .next { t with call := some s.nextCall.count, runCycle := t.cycle.extractLsb' 0 32 }

/-! ## Traps and the return from one -/

/-- R316: the one trap entry. -/
def Obligations.TrapEntry : Prop :=
  ∀ (s : State) (cause epc tval : Word),
    s.takeTrap cause epc tval = { s with
      mcause := cause
      mtval := tval
      mepc := epc
      mstatus := (((s.mstatus >>> 3) &&& 1#32) <<< 7) ||| (s.priv.setWidth 32 <<< 11)
      pc := s.mtvec
      priv := 3#2 }

/-- R275: MRET, in every mode, and every word that executes as MRET: any rd and rs1, and any value of bits 31:28, the URET
and SRET words among them. -/
def Obligations.MretReturns : Prop :=
  (∀ s : State, exec .mret s = .next { s with
      mstatus := (((s.mstatus >>> 7) &&& 1#32) <<< 3) ||| (s.priv.setWidth 32 <<< 11) ||| 0x80#32
      priv := s.mstatus.extractLsb' 11 2
      pc := s.mepc })
    ∧ ∀ w : Word, w &&& 0x0ff0707f#32 = 0x00200073#32 → decode w = .ok .mret

/-- R317, R321: an MRET right after the trap of any exception resumes at the faulting instruction, with the privilege and
the interrupt enable it had, and no register and no byte of RAM changed. -/
def Obligations.TrapThenMretRestores : Prop :=
  ∀ (s : State) (e : Exc) (v : Word), s.cfg.failOnAllFaults = false →
    ∃ t, exec .mret (s.raise e v) = .next t ∧ t.pc = s.pc ∧ t.priv = s.priv
      ∧ t.mstatus.getLsbD 3 = s.mstatus.getLsbD 3 ∧ (∀ r, t.x r = s.x r) ∧ t.mem = s.mem ∧ t.resv = s.resv

/-- R273, R312: ECALL takes cause 8 from user mode and cause 11 from every other level, with the pc as trap value. -/
def Obligations.EcallTraps : Prop :=
  ∀ s : State, (s.priv = 0#2 → Faults .ecall s .ecallFromU s.pc)
    ∧ (s.priv ≠ 0#2 → Faults .ecall s .ecallFromM s.pc)
    ∧ excCode .ecallFromU = 8#32 ∧ excCode .ecallFromM = 11#32

/-- R274, R312: EBREAK takes cause 3, with the pc as trap value, at every privilege level. -/
def Obligations.EbreakTraps : Prop :=
  ∀ s : State, Faults .ebreak s .breakpoint s.pc ∧ excCode .breakpoint = 3#32

/-- R283, R306: WFI sets MIE and the latch, moves the pc as WFI_RESUME_PC says, and ends the call Sleeping; the cycle count
is committed only under CYCLE_COMMIT_ON_EARLY_END. -/
def Obligations.WfiSleeps : Prop :=
  ∀ s : State, exec .wfi s = .next { s with
    mstatus := s.mstatus ||| 8#32
    wfi := true
    pc := if s.cfg.wfiResume = .next then s.pc + 4#32 else s.pc
    cycle := if s.cfg.cycleCommitOnEarlyEnd then committed s.cycle s.runCycle else s.cycle
    call := none
    events := s.events ++ [.returned .sleeping] }

/-- R270, R271, R272: FENCE, FENCE.I and every other MISC-MEM encoding only advance the pc. -/
def Obligations.FencesOnlyAdvancePc : Prop :=
  ∀ (s : State) (fm pred succ : BitVec 4) (i : Instr),
    i ∈ [.fence fm pred succ, .fenceI, .miscMemF2, .miscMemF3, .miscMemF4, .miscMemF5, .miscMemF6, .miscMemF7] →
    exec i s = .next { s with pc := s.pc + 4#32 }

/-! ## CSR access -/

/-- R277 to R282 on the core's own CSRs: one read, one write of all 32 bits, the old value into `rd`, at every privilege
level (R285), also with rd, rs1 or zimm zero; nothing else changes. -/
def Obligations.CsrInstructionsOnCoreCsrs : Prop :=
  ∀ (s : State) (rd rs1 : RegIx) (z : BitVec 5) (n : CsrIx) (k : CoreCsr), (n, k) ∈ coreCsrTable →
    Answers (.csrrw rd rs1 n) s (CoreCsrResult s rd k (fun _ => s.x rs1))
      ∧ Answers (.csrrs rd rs1 n) s (CoreCsrResult s rd k (fun old => old ||| s.x rs1))
      ∧ Answers (.csrrc rd rs1 n) s (CoreCsrResult s rd k (fun old => old &&& ~~~(s.x rs1)))
      ∧ Answers (.csrrwi rd z n) s (CoreCsrResult s rd k (fun _ => z.setWidth 32))
      ∧ Answers (.csrrsi rd z n) s (CoreCsrResult s rd k (fun old => old ||| z.setWidth 32))
      ∧ Answers (.csrrci rd z n) s (CoreCsrResult s rd k (fun old => old &&& ~~~(z.setWidth 32)))

/-- R276 to R282 on CSR 0xC00: `rd` gets the running cycle value, the write goes to the host, the counter is unchanged. -/
def Obligations.CsrInstructionsOnCycle : Prop :=
  ∀ (s : State) (rd rs1 : RegIx) (z : BitVec 5),
    Answers (.csrrw rd rs1 0xc00#12) s (CycleCsrResult s rd (s.x rs1))
      ∧ Answers (.csrrs rd rs1 0xc00#12) s (CycleCsrResult s rd (s.runCycle ||| s.x rs1))
      ∧ Answers (.csrrc rd rs1 0xc00#12) s (CycleCsrResult s rd (s.runCycle &&& ~~~(s.x rs1)))
      ∧ Answers (.csrrwi rd z 0xc00#12) s (CycleCsrResult s rd (z.setWidth 32))
      ∧ Answers (.csrrsi rd z 0xc00#12) s (CycleCsrResult s rd (s.runCycle ||| z.setWidth 32))
      ∧ Answers (.csrrci rd z 0xc00#12) s (CycleCsrResult s rd (s.runCycle &&& ~~~(z.setWidth 32)))

/-- R276 to R282 on every other CSR number: one read hook, then one write hook of the value computed from the answer. -/
def Obligations.CsrInstructionsOnHostCsrs : Prop :=
  ∀ (s : State) (rd rs1 : RegIx) (z : BitVec 5) (n : CsrIx), (∀ k, (n, k) ∉ coreCsrTable) → n ≠ 0xc00#12 →
    let old := s.reply.value
    Answers (.csrrw rd rs1 n) s (HostCsrResult s rd n (s.x rs1))
      ∧ Answers (.csrrs rd rs1 n) s (HostCsrResult s rd n (old ||| s.x rs1))
      ∧ Answers (.csrrc rd rs1 n) s (HostCsrResult s rd n (old &&& ~~~(s.x rs1)))
      ∧ Answers (.csrrwi rd z n) s (HostCsrResult s rd n (z.setWidth 32))
      ∧ Answers (.csrrsi rd z n) s (HostCsrResult s rd n (old ||| z.setWidth 32))
      ∧ Answers (.csrrci rd z n) s (HostCsrResult s rd n (old &&& ~~~(z.setWidth 32)))

/-! ## Integer operations -/

/-- R150, R151. -/
def Obligations.UpperImmediateResults : Prop :=
  ∀ (s : State) (rd : RegIx) (imm : Word),
    Answers (.lui rd imm) s (RegResult s · rd imm) ∧ Answers (.auipc rd imm) s (RegResult s · rd (s.pc + imm))

/-- R180 to R186. -/
def Obligations.RegisterImmediateResults : Prop :=
  ∀ (s : State) (rd rs1 : RegIx) (imm : Word),
    let a := s.x rs1
    Answers (.addi rd rs1 imm) s (RegResult s · rd (BitVec.ofNat 32 (a.toNat + imm.toNat)))
      ∧ Answers (.slti rd rs1 imm) s (RegResult s · rd (if a.toInt < imm.toInt then 1#32 else 0#32))
      ∧ Answers (.sltiu rd rs1 imm) s (RegResult s · rd (if a.toNat < imm.toNat then 1#32 else 0#32))
      ∧ Answers (.xori rd rs1 imm) s (RegResult s · rd (a ^^^ imm))
      ∧ Answers (.ori rd rs1 imm) s (RegResult s · rd (a ||| imm))
      ∧ Answers (.andi rd rs1 imm) s (RegResult s · rd (a &&& imm))

/-- R187 to R189: left, logical right and arithmetic right shift as multiplication and (floor) division by a power of two. -/
def Obligations.ImmediateShiftResults : Prop :=
  ∀ (s : State) (rd rs1 : RegIx) (shamt : BitVec 5),
    let a := s.x rs1
    let p := 2 ^ shamt.toNat
    Answers (.slli rd rs1 shamt) s (RegResult s · rd (BitVec.ofNat 32 (a.toNat * p)))
      ∧ Answers (.srli rd rs1 shamt) s (RegResult s · rd (BitVec.ofNat 32 (a.toNat / p)))
      ∧ Answers (.srai rd rs1 shamt) s (RegResult s · rd (BitVec.ofInt 32 (a.toInt / (p : Nat))))

/-- R190, R191, R193, R194, R195, R198, R199. -/
def Obligations.RegisterRegisterResults : Prop :=
  ∀ (s : State) (rd rs1 rs2 : RegIx),
    let a := s.x rs1
    let b := s.x rs2
    Answers (.add rd rs1 rs2) s (RegResult s · rd (BitVec.ofNat 32 (a.toNat + b.toNat)))
      ∧ Answers (.sub rd rs1 rs2) s (RegResult s · rd (BitVec.ofInt 32 ((a.toNat : Int) - b.toNat)))
      ∧ Answers (.slt rd rs1 rs2) s (RegResult s · rd (if a.toInt < b.toInt then 1#32 else 0#32))
      ∧ Answers (.sltu rd rs1 rs2) s (RegResult s · rd (if a.toNat < b.toNat then 1#32 else 0#32))
      ∧ Answers (.xor rd rs1 rs2) s (RegResult s · rd (a ^^^ b))
      ∧ Answers (.or rd rs1 rs2) s (RegResult s · rd (a ||| b))
      ∧ Answers (.and rd rs1 rs2) s (RegResult s · rd (a &&& b))

/-- R192, R196, R197: register shifts, by the amount modulo 32. -/
def Obligations.RegisterShiftResults : Prop :=
  ∀ (s : State) (rd rs1 rs2 : RegIx),
    let a := s.x rs1
    let p := 2 ^ ((s.x rs2).toNat % 32)
    Answers (.sll rd rs1 rs2) s (RegResult s · rd (BitVec.ofNat 32 (a.toNat * p)))
      ∧ Answers (.srl rd rs1 rs2) s (RegResult s · rd (BitVec.ofNat 32 (a.toNat / p)))
      ∧ Answers (.sra rd rs1 rs2) s (RegResult s · rd (BitVec.ofInt 32 (a.toInt / (p : Nat))))

/-- R211 to R214: the low word, which is the same for signed and unsigned operands, and the high words as bits 63:32 of the
64-bit product of the extended operands. -/
def Obligations.MultiplyResults : Prop :=
  ∀ (s : State) (rd rs1 rs2 : RegIx),
    let a := s.x rs1
    let b := s.x rs2
    Answers (.mul rd rs1 rs2) s (RegResult s · rd (BitVec.ofInt 32 (a.toInt * b.toInt)))
      ∧ Answers (.mulh rd rs1 rs2) s
          (RegResult s · rd ((a.signExtend 64 * b.signExtend 64).extractLsb' 32 32))
      ∧ Answers (.mulhsu rd rs1 rs2) s
          (RegResult s · rd ((a.signExtend 64 * b.setWidth 64).extractLsb' 32 32))
      ∧ Answers (.mulhu rd rs1 rs2) s
          (RegResult s · rd ((a.setWidth 64 * b.setWidth 64).extractLsb' 32 32))

/-- R215 to R218: quotient and remainder, with the sentinels of R219 for a zero divisor and for the signed overflow. -/
def Obligations.DivideResults : Prop :=
  ∀ (s : State) (rd rs1 rs2 : RegIx),
    let a := s.x rs1
    let b := s.x rs2
    let overflow := a = 0x80000000#32 ∧ b = 0xffffffff#32
    Answers (.div rd rs1 rs2) s (RegResult s · rd
        (if b = 0#32 then 0xffffffff#32 else if overflow then 0x80000000#32
          else BitVec.ofInt 32 (a.toInt.tdiv b.toInt)))
      ∧ Answers (.divu rd rs1 rs2) s (RegResult s · rd
        (if b = 0#32 then 0xffffffff#32 else BitVec.ofNat 32 (a.toNat / b.toNat)))
      ∧ Answers (.rem rd rs1 rs2) s (RegResult s · rd
        (if b = 0#32 then a else if overflow then 0#32 else BitVec.ofInt 32 (a.toInt.tmod b.toInt)))
      ∧ Answers (.remu rd rs1 rs2) s (RegResult s · rd
        (if b = 0#32 then a else BitVec.ofNat 32 (a.toNat % b.toNat)))

/-- R220: the identities of quotient and remainder, signed and unsigned, and of the two halves of a product. -/
def Obligations.DivisionAndProductIdentities : Prop :=
  ∀ (s q r qu ru h l : State) (rd rs1 rs2 : RegIx), rd ≠ 0#5 →
    exec (.div rd rs1 rs2) s = .next q → exec (.rem rd rs1 rs2) s = .next r →
    exec (.divu rd rs1 rs2) s = .next qu → exec (.remu rd rs1 rs2) s = .next ru →
    exec (.mulhu rd rs1 rs2) s = .next h → exec (.mul rd rs1 rs2) s = .next l →
    let a := s.x rs1
    let b := s.x rs2
    (b ≠ 0#32 → ¬(a = 0x80000000#32 ∧ b = 0xffffffff#32) →
        (q.x rd).toInt * b.toInt + (r.x rd).toInt = a.toInt ∧ (r.x rd).toInt.natAbs < b.toInt.natAbs)
      ∧ (b ≠ 0#32 → (qu.x rd).toNat * b.toNat + (ru.x rd).toNat = a.toNat ∧ (ru.x rd).toNat < b.toNat)
      ∧ (h.x rd).toNat * 2 ^ 32 + (l.x rd).toNat = a.toNat * b.toNat

/-! ## Branches and jumps -/

/-- R231 to R236: each branch goes to `pc + imm` when its condition holds and to `pc + 4` otherwise, and changes nothing
else; it never traps itself, whatever the target (R230). -/
def Obligations.BranchResults : Prop :=
  ∀ (s : State) (rs1 rs2 : RegIx) (imm : Word),
    let a := s.x rs1
    let b := s.x rs2
    let go := fun p : Prop => fun t : State => (p → t = { s with pc := s.pc + imm }) ∧ (¬p → t = { s with pc := s.pc + 4#32 })
    Answers (.beq rs1 rs2 imm) s (go (a = b))
      ∧ Answers (.bne rs1 rs2 imm) s (go (a ≠ b))
      ∧ Answers (.blt rs1 rs2 imm) s (go (a.toInt < b.toInt))
      ∧ Answers (.bge rs1 rs2 imm) s (go (b.toInt ≤ a.toInt))
      ∧ Answers (.bltu rs1 rs2 imm) s (go (a.toNat < b.toNat))
      ∧ Answers (.bgeu rs1 rs2 imm) s (go (b.toNat ≤ a.toNat))

/-- R237, R238: the return address goes into `rd`, the target from the old operands into the pc, bit 0 of JALR's cleared. -/
def Obligations.JumpResults : Prop :=
  ∀ (s : State) (rd rs1 : RegIx) (imm : Word),
    Answers (.jal rd imm) s (fun t =>
        t = { s with xregs := t.xregs, pc := s.pc + imm } ∧ RegsAfter s t rd (s.pc + 4#32))
      ∧ Answers (.jalr rd rs1 imm) s (fun t =>
        t = { s with xregs := t.xregs, pc := BitVec.ofNat 32 ((s.x rs1 + imm).toNat / 2 * 2) }
          ∧ RegsAfter s t rd (s.pc + 4#32))

/-! ## Memory -/

/-- R71, R72, R75, R76, R78, R84: what the arbiter makes of a data access of 1, 2 or 4 bytes, by address ranges, for a configuration that meets R7
and with RAM_TAIL_GUARD false: a misaligned access first; then RAM when every byte is in RAM, the window, or neither. -/
def Obligations.AccessRegions : Prop :=
  ∀ (c : Config) (a : Word) (w : Width) (n : Nat), (w, n) ∈ [(Width.byte, 1), (.half, 2), (.word, 4)] →
    c.ok = true → c.ramTailGuard = false →
    let lo := c.ramBase.toNat
    (a.toNat % n ≠ 0 → classify c a w = .misaligned)
      ∧ (a.toNat % n = 0 → lo ≤ a.toNat → a.toNat + n ≤ lo + c.ramSize → classify c a w = .ram (a - c.ramBase))
      ∧ (a.toNat % n = 0 → c.mmioLo.toNat ≤ a.toNat → a.toNat < c.mmioHi.toNat → classify c a w = .mmio)
      ∧ (a.toNat % n = 0 → ¬(lo ≤ a.toNat ∧ a.toNat + n ≤ lo + c.ramSize) →
          ¬(c.mmioLo.toNat ≤ a.toNat ∧ a.toNat < c.mmioHi.toNat) → classify c a w = .invalid)

/-- R77: under RAM_TAIL_GUARD an access whose RAM offset is in the last three bytes of RAM is not in RAM, whatever its
width; every other access, in RAM or outside it, is classified as without the guard. -/
def Obligations.TailGuardRefusesLastBytes : Prop :=
  ∀ (c : Config) (a : Word) (w : Width), c.ok = true → c.ramTailGuard = true →
    (c.ramSize - 3 ≤ (a - c.ramBase).toNat → ∀ off, classify c a w ≠ .ram off)
      ∧ ((a - c.ramBase).toNat < c.ramSize - 3 ∨ c.ramSize ≤ (a - c.ramBase).toNat →
        classify c a w = classify { c with ramTailGuard := false } a w)

/-- R160 to R165, R80: a load from RAM gives the little-endian bytes at `x[rs1] + imm`, sign- or zero-extended. -/
def Obligations.RamLoadResults : Prop :=
  ∀ (s : State) (rd rs1 : RegIx) (imm off : Word),
    let ea := s.x rs1 + imm
    let b := fun k => readByte s.mem (ea.toNat + k)
    (classify s.cfg ea .byte = .ram off →
        Answers (.lb rd rs1 imm) s (RegResult s · rd ((b 0).signExtend 32))
          ∧ Answers (.lbu rd rs1 imm) s (RegResult s · rd ((b 0).setWidth 32)))
      ∧ (classify s.cfg ea .half = .ram off →
        Answers (.lh rd rs1 imm) s (RegResult s · rd ((b 1 ++ b 0).signExtend 32))
          ∧ Answers (.lhu rd rs1 imm) s (RegResult s · rd ((b 1 ++ b 0).setWidth 32)))
      ∧ (classify s.cfg ea .word = .ram off →
        Answers (.lw rd rs1 imm) s (RegResult s · rd (b 3 ++ b 2 ++ b 1 ++ b 0)))

/-- R76, R78, R160, R310: a misaligned load raises cause 4 and an invalid one cause 5, with the effective address as trap
value; `rd` is not written. -/
def Obligations.LoadFaults : Prop :=
  ∀ (s : State) (rd rs1 : RegIx) (imm : Word) (i : Instr) (w : Width),
    (i, w) ∈ [(.lb rd rs1 imm, .byte), (.lbu rd rs1 imm, .byte), (.lh rd rs1 imm, .half), (.lhu rd rs1 imm, .half),
      (.lw rd rs1 imm, .word)] →
    let ea := s.x rs1 + imm
    (classify s.cfg ea w = .misaligned → Faults i s .loadAddressMisaligned ea)
      ∧ (classify s.cfg ea w = .invalid → Faults i s .loadAccessFault ea)
      ∧ excCode .loadAddressMisaligned = 4#32 ∧ excCode .loadAccessFault = 5#32

/-- R82, R85: a load from the MMIO window calls the hook once and writes its 32-bit answer unchanged, whatever the width
and signedness and also for x0; the hook may change only the timer and the match. -/
def Obligations.MmioLoadResults : Prop :=
  ∀ (s : State) (rd rs1 : RegIx) (imm : Word) (i : Instr) (w : Width),
    (i, w) ∈ [(.lb rd rs1 imm, .byte), (.lbu rd rs1 imm, .byte), (.lh rd rs1 imm, .half), (.lhu rd rs1 imm, .half),
      (.lw rd rs1 imm, .word)] →
    let ea := s.x rs1 + imm
    classify s.cfg ea w = .mmio →
    Answers i s (fun t => t = { s with
        xregs := t.xregs
        pc := s.pc + 4#32
        timer := s.reply.timer.getD s.timer
        timermatch := s.reply.timermatch.getD s.timermatch
        events := s.events ++ [.mmioLoad ea]
        replies := t.replies
        draws := t.draws }
      ∧ RegsAfter s t rd s.reply.value)

/-- R166 to R168, R74, R81: a store to RAM writes the low bytes of `x[rs2]` at `x[rs1] + imm`, little-endian, and nothing
else. -/
def Obligations.RamStoreResults : Prop :=
  ∀ (s : State) (rs1 rs2 : RegIx) (imm off : Word),
    let ea := s.x rs1 + imm
    (classify s.cfg ea .byte = .ram off → Answers (.sb rs1 rs2 imm) s (StoreResult s ea.toNat 1 (s.x rs2)))
      ∧ (classify s.cfg ea .half = .ram off → Answers (.sh rs1 rs2 imm) s (StoreResult s ea.toNat 2 (s.x rs2)))
      ∧ (classify s.cfg ea .word = .ram off → Answers (.sw rs1 rs2 imm) s (StoreResult s ea.toNat 4 (s.x rs2)))

/-- R76, R78, R160, R310: a misaligned store raises cause 6 and an invalid one cause 7, with the effective address as trap
value; nothing is written. -/
def Obligations.StoreFaults : Prop :=
  ∀ (s : State) (rs1 rs2 : RegIx) (imm : Word) (i : Instr) (w : Width),
    (i, w) ∈ [(.sb rs1 rs2 imm, .byte), (.sh rs1 rs2 imm, .half), (.sw rs1 rs2 imm, .word)] →
    let ea := s.x rs1 + imm
    (classify s.cfg ea w = .misaligned → Faults i s .storeAddressMisaligned ea)
      ∧ (classify s.cfg ea w = .invalid → Faults i s .storeAccessFault ea)
      ∧ excCode .storeAddressMisaligned = 6#32 ∧ excCode .storeAccessFault = 7#32

/-- R83, R85: a store to the MMIO window calls the hook once with all 32 bits of `x[rs2]`; with flag 0 it retires, with any
other flag the call and the run end with HostStopped. The pc and the cycle count after HostStopped are not read (U8). -/
def Obligations.MmioStoreResults : Prop :=
  ∀ (s : State) (rs1 rs2 : RegIx) (imm : Word) (i : Instr) (w : Width),
    (i, w) ∈ [(.sb rs1 rs2 imm, .byte), (.sh rs1 rs2 imm, .half), (.sw rs1 rs2 imm, .word)] →
    let ea := s.x rs1 + imm
    let flag := s.reply.value
    classify s.cfg ea w = .mmio →
    (flag = 0#32 → Answers i s (fun t => t = { s with
        pc := s.pc + 4#32
        timer := s.reply.timer.getD s.timer
        timermatch := s.reply.timermatch.getD s.timermatch
        events := s.events ++ [.mmioStore ea (s.x rs2)]
        replies := t.replies
        draws := t.draws }))
      ∧ (flag ≠ 0#32 → Answers i s (fun t => t = { s with
        pc := t.pc
        cycle := t.cycle
        timer := s.reply.timer.getD s.timer
        timermatch := s.reply.timermatch.getD s.timermatch
        status := .hostStopped flag
        call := none
        events := s.events ++ [.mmioStore ea (s.x rs2), .returned (.hostStopped flag)]
        replies := t.replies
        draws := t.draws }))

/-- R87: a word stored in RAM and loaded back is the word; a byte stored and loaded back unsigned is its low eight bits,
so a value in 0 to 255. -/
def Obligations.StoreThenLoadGivesValue : Prop :=
  ∀ (s t u : State) (rd rs1 rs2 : RegIx) (imm off : Word), rd ≠ 0#5 →
    (classify s.cfg (s.x rs1 + imm) .word = .ram off → exec (.sw rs1 rs2 imm) s = .next t →
        exec (.lw rd rs1 imm) t = .next u → u.x rd = s.x rs2)
      ∧ (classify s.cfg (s.x rs1 + imm) .byte = .ram off → exec (.sb rs1 rs2 imm) s = .next t →
        exec (.lbu rd rs1 imm) t = .next u → (u.x rd).toNat = (s.x rs2).toNat % 256)

/-! ## Atomics -/

/-- R252: LR.W loads the word and records the low 29 bits of its RAM offset. -/
def Obligations.LoadReservedResult : Prop :=
  ∀ (s : State) (rd rs1 : RegIx) (aq rl : Bool) (off : Word),
    let a := s.x rs1
    classify s.cfg a .word = .ram off →
    Answers (.lrW rd rs1 aq rl) s (fun t =>
      t = { s with xregs := t.xregs, pc := s.pc + 4#32, resv := off.setWidth 29 }
        ∧ RegsAfter s t rd (readByte s.mem (a.toNat + 3) ++ readByte s.mem (a.toNat + 2) ++ readByte s.mem (a.toNat + 1)
            ++ readByte s.mem a.toNat))

/-- R253, R251: SC.W stores and answers 0 exactly when the reservation equals the low 29 bits of the offset; otherwise it
stores nothing and answers 1; the reservation is kept either way. -/
def Obligations.StoreConditionalResult : Prop :=
  ∀ (s : State) (rd rs1 rs2 : RegIx) (aq rl : Bool) (off : Word),
    let a := s.x rs1
    classify s.cfg a .word = .ram off →
    (s.resv = off.setWidth 29 →
        Answers (.scW rd rs1 rs2 aq rl) s (AtomicResult s a.toNat (s.x rs2) rd 0#32))
      ∧ (s.resv ≠ off.setWidth 29 → Answers (.scW rd rs1 rs2 aq rl) s (RegResult s · rd 1#32))

/-- R254 to R262: each AMO writes the operation of the old word and `x[rs2]` back and gives the old word. -/
def Obligations.AtomicReadModifyWrite : Prop :=
  ∀ (s : State) (rd rs1 rs2 : RegIx) (aq rl : Bool) (off : Word),
    let a := s.x rs1
    let v := s.x rs2
    let old := readWord s.mem a.toNat
    classify s.cfg a .word = .ram off →
    Answers (.amoswapW rd rs1 rs2 aq rl) s (AtomicResult s a.toNat v rd old)
      ∧ Answers (.amoaddW rd rs1 rs2 aq rl) s (AtomicResult s a.toNat (BitVec.ofNat 32 (old.toNat + v.toNat)) rd old)
      ∧ Answers (.amoxorW rd rs1 rs2 aq rl) s (AtomicResult s a.toNat (old ^^^ v) rd old)
      ∧ Answers (.amoandW rd rs1 rs2 aq rl) s (AtomicResult s a.toNat (old &&& v) rd old)
      ∧ Answers (.amoorW rd rs1 rs2 aq rl) s (AtomicResult s a.toNat (old ||| v) rd old)
      ∧ Answers (.amominW rd rs1 rs2 aq rl) s (AtomicResult s a.toNat (BitVec.ofInt 32 (min old.toInt v.toInt)) rd old)
      ∧ Answers (.amomaxW rd rs1 rs2 aq rl) s (AtomicResult s a.toNat (BitVec.ofInt 32 (max old.toInt v.toInt)) rd old)
      ∧ Answers (.amominuW rd rs1 rs2 aq rl) s (AtomicResult s a.toNat (BitVec.ofNat 32 (min old.toNat v.toNat)) rd old)
      ∧ Answers (.amomaxuW rd rs1 rs2 aq rl) s (AtomicResult s a.toNat (BitVec.ofNat 32 (max old.toNat v.toNat)) rd old)

/-- R250: every atomic, LR.W and SC.W too, raises cause 6 at a misaligned address and cause 7 at any other address that is
no RAM word, the MMIO window included; it calls no hook and changes neither RAM, `rd` nor the reservation. -/
def Obligations.AtomicFaults : Prop :=
  ∀ (s : State) (rd rs1 rs2 : RegIx) (aq rl : Bool) (i : Instr),
    i ∈ [.lrW rd rs1 aq rl, .scW rd rs1 rs2 aq rl, .amoswapW rd rs1 rs2 aq rl, .amoaddW rd rs1 rs2 aq rl,
      .amoxorW rd rs1 rs2 aq rl, .amoandW rd rs1 rs2 aq rl, .amoorW rd rs1 rs2 aq rl, .amominW rd rs1 rs2 aq rl,
      .amomaxW rd rs1 rs2 aq rl, .amominuW rd rs1 rs2 aq rl, .amomaxuW rd rs1 rs2 aq rl] →
    let a := s.x rs1
    (a.toNat % 4 ≠ 0 → Faults i s .storeAddressMisaligned a)
      ∧ (a.toNat % 4 = 0 → (∀ off, classify s.cfg a .word ≠ .ram off) → Faults i s .storeAccessFault a)

/-- R264, R251: an SC.W at the word the LR.W before it named always succeeds and stores; at a word whose offset differs
below 2^29 it fails and stores nothing. -/
def Obligations.LrScPair : Prop :=
  ∀ (s t : State) (rd rs1 rd' rs1' rs2' : RegIx) (aq rl aq' rl' : Bool) (off off' : Word),
    classify s.cfg (s.x rs1) .word = .ram off → exec (.lrW rd rs1 aq rl) s = .next t →
    (t.x rs1' = s.x rs1 → ∃ u, exec (.scW rd' rs1' rs2' aq' rl') t = .next u
        ∧ u.x rd' = 0#32 ∧ readWord u.mem (s.x rs1).toNat = t.x rs2')
      ∧ (classify t.cfg (t.x rs1') .word = .ram off' → off'.toNat % 2 ^ 29 ≠ off.toNat % 2 ^ 29 →
        ∃ u, exec (.scW rd' rs1' rs2' aq' rl') t = .next u
          ∧ (rd' ≠ 0#5 → u.x rd' = 1#32) ∧ u.mem = s.mem)

/-! ## Rules of the whole machine -/

/-- Every instruction has a meaning that answers a next state in every state. -/
def Obligations.EveryInstructionAnswers : Prop :=
  ∀ (i : Instr) (s : State), ∃ t, exec i s = .next t

/-- R251, R47: no instruction but LR.W writes the reservation, and none but WFI changes the wait latch, which WFI sets. -/
def Obligations.OnlyLrReservesAndOnlyWfiLatches : Prop :=
  ∀ (i : Instr) (s t : State), exec i s = .next t →
    (t.resv = s.resv ∨ ∃ rd rs1 aq rl, i = .lrW rd rs1 aq rl) ∧ (t.wfi = s.wfi ∨ i = .wfi ∧ t.wfi = true)

/-- R331: an instruction changes the privilege level only by trapping, which enters machine mode at `mtvec`, or by being
MRET, which enters `mstatus.MPP`. -/
def Obligations.PrivilegeChangesOnlyByTrapOrMret : Prop :=
  ∀ (i : Instr) (s t : State), exec i s = .next t →
    t.priv = s.priv ∨ (t.priv = 3#2 ∧ t.pc = s.mtvec ∧ t.mepc = s.pc) ∨ (i = .mret ∧ t.priv = s.mstatus.extractLsb' 11 2)

/-- R285, R330: no instruction's effect depends on the privilege level: two runs that differ only in it agree on the
registers, the pc, RAM, the counters, every CSR but `mstatus` (where it is saved), and, but for ECALL's cause, on `mcause`,
the run status and what the host sees. -/
def Obligations.PrivilegeRestrictsNothing : Prop :=
  ∀ (i : Instr) (s t u : State) (p : BitVec 2), exec i s = .next t → exec i { s with priv := p } = .next u →
    (u.xregs = t.xregs ∧ u.pc = t.pc ∧ u.mem = t.mem ∧ u.cycle = t.cycle ∧ u.timer = t.timer
        ∧ u.timermatch = t.timermatch ∧ u.mie = t.mie ∧ u.mip = t.mip ∧ u.mtvec = t.mtvec ∧ u.mscratch = t.mscratch
        ∧ u.mepc = t.mepc ∧ u.mtval = t.mtval ∧ u.wfi = t.wfi ∧ u.resv = t.resv ∧ u.call = t.call)
      ∧ (i ≠ .ecall → u.mcause = t.mcause ∧ u.status = t.status ∧ u.events = t.events)

/-- R41, R302, R324: no instruction but a CSR write to `mip` changes `mip`, and none takes the timer interrupt: an
instruction that leaves `mcause` at 0x80000007 found it there or is a CSR instruction that wrote it. -/
def Obligations.NoInterruptInsideCall : Prop :=
  ∀ (i : Instr) (s t : State), exec i s = .next t →
    (∀ rd rs1 n, i ≠ .csrrw rd rs1 n ∧ i ≠ .csrrs rd rs1 n ∧ i ≠ .csrrc rd rs1 n) →
    (∀ rd z n, i ≠ .csrrwi rd z n ∧ i ≠ .csrrsi rd z n ∧ i ≠ .csrrci rd z n) →
    t.mip = s.mip ∧ (t.mcause = 0x80000007#32 → s.mcause = 0x80000007#32)
end

