-- ==== Sys2Proof/Laws/Memory.lean ====
section
/-!
SUPPORT. The laws of guest RAM: what a read gives after a write, that every memory operation keeps the canonical form, and
which addresses it lists.
-/

namespace Sys2Proof.Machine

/-! ### One byte -/

theorem readByte_insertByte (m : Memory) (a : Nat) (v : Byte) (b : Nat) :
    readByte (insertByte m a v) b = if b = a then v else readByte m b := by
  induction m with
  | nil =>
    rcases eq_or_ne b a with h | h
    · simp [insertByte, readByte, h]
    · simp [insertByte, readByte, h, Ne.symm h]
  | cons c t ih =>
    obtain ⟨k, w⟩ := c
    simp only [insertByte]
    split
    · rcases eq_or_ne b a with h | h
      · simp [readByte, h]
      · simp [readByte, h, Ne.symm h]
    · split
      · next h =>
        subst h
        rcases eq_or_ne b a with h | h
        · simp [readByte, h]
        · simp [readByte, h, Ne.symm h]
      · next h1 h2 =>
        rcases eq_or_ne k b with h | h
        · subst h; simp [readByte, Ne.symm h2]
        · simp [readByte, h, ih]

theorem readByte_filter (m : Memory) (a b : Nat) :
    readByte (m.filter (fun c => c.1 != a)) b = if b = a then unlistedByte else readByte m b := by
  induction m with
  | nil => simp [readByte]
  | cons c t ih =>
    obtain ⟨k, w⟩ := c
    by_cases hk : k = a
    · subst hk
      rcases eq_or_ne b k with h | h
      · subst h; simpa using ih
      · simp [readByte, h, Ne.symm h, ih]
    · rcases eq_or_ne k b with h | h
      · subst h; simp [readByte, hk]
      · simp [readByte, hk, h, ih]

/-- A byte reads what was last written to it, and a write leaves every other byte alone. -/
@[simp] theorem readByte_writeByte (m : Memory) (a : Nat) (v : Byte) (b : Nat) :
    readByte (writeByte m a v) b = if b = a then v else readByte m b := by
  unfold writeByte
  split
  · next h => rw [readByte_filter, h]
  · exact readByte_insertByte m a v b

/-! ### The canonical form -/

/-- The canonical form says that the addresses strictly rise and that no listed byte is the one an unlisted address has. -/
theorem memoryWf_iff (m : Memory) :
    memoryWf m = true ↔ m.Pairwise (fun c d => c.1 < d.1) ∧ ∀ c ∈ m, c.2 ≠ unlistedByte := by
  induction m with
  | nil => simp [memoryWf]
  | cons c t ih =>
    cases t with
    | nil => simp [memoryWf]
    | cons d t' =>
      simp only [memoryWf, Bool.and_eq_true, bne_iff_ne, decide_eq_true_eq, ih, List.pairwise_cons, List.mem_cons,
        forall_eq_or_imp]
      constructor
      · rintro ⟨⟨hc, hlt⟩, ⟨hd, ht⟩, hz⟩
        exact ⟨⟨⟨hlt, fun e he => lt_trans hlt (hd e he)⟩, hd, ht⟩, hc, hz⟩
      · rintro ⟨⟨⟨hlt, -⟩, hd, ht⟩, hc, hz⟩
        exact ⟨⟨hc, hlt⟩, ⟨hd, ht⟩, hz⟩

theorem mem_insertByte (m : Memory) (a : Nat) (v : Byte) (c : Host.Cell) (h : c ∈ insertByte m a v) :
    c = (a, v) ∨ c ∈ m := by
  induction m with
  | nil => simpa [insertByte] using h
  | cons d t ih =>
    obtain ⟨k, w⟩ := d
    simp only [insertByte] at h
    split at h
    · simpa using h
    · split at h
      · rcases List.mem_cons.1 h with h | h
        · exact .inl h
        · exact .inr (List.mem_cons_of_mem _ h)
      · rcases List.mem_cons.1 h with h | h
        · exact .inr (h ▸ List.mem_cons_self)
        · rcases ih h with h | h
          · exact .inl h
          · exact .inr (List.mem_cons_of_mem _ h)

/-- A write lists at most the written address beside what was listed. -/
theorem mem_writeByte (m : Memory) (a : Nat) (v : Byte) (c : Host.Cell) (h : c ∈ writeByte m a v) :
    c.1 = a ∨ c ∈ m := by
  unfold writeByte at h
  split at h
  · exact .inr (List.mem_filter.1 h).1
  · rcases mem_insertByte m a v c h with h | h
    · exact .inl (h ▸ rfl)
    · exact .inr h

theorem pairwise_insertByte (m : Memory) (a : Nat) (v : Byte)
    (h : m.Pairwise (fun c d => c.1 < d.1)) : (insertByte m a v).Pairwise (fun c d => c.1 < d.1) := by
  induction m with
  | nil => simp [insertByte]
  | cons d t ih =>
    obtain ⟨k, w⟩ := d
    obtain ⟨hk, ht⟩ := List.pairwise_cons.1 h
    simp only [insertByte]
    split
    · next hlt =>
      refine List.pairwise_cons.2 ⟨fun c hc => ?_, h⟩
      rcases List.mem_cons.1 hc with rfl | hc
      · exact hlt
      · exact lt_trans hlt (hk c hc)
    · split
      · next he => exact List.pairwise_cons.2 ⟨fun c hc => by simpa [he] using hk c hc, ht⟩
      · next h1 h2 =>
        refine List.pairwise_cons.2 ⟨fun c hc => ?_, ih ht⟩
        rcases mem_insertByte t a v c hc with rfl | hc
        · show k < a; omega
        · exact hk c hc

/-- A write keeps the canonical form. -/
theorem writeByte_keeps_wf (m : Memory) (a : Nat) (v : Byte) (h : memoryWf m = true) :
    memoryWf (writeByte m a v) = true := by
  rw [memoryWf_iff] at h ⊢
  unfold writeByte
  split
  · exact ⟨h.1.filter _, fun c hc => h.2 c (List.mem_filter.1 hc).1⟩
  · next hv =>
    refine ⟨pairwise_insertByte m a v h.1, fun c hc => ?_⟩
    rcases mem_insertByte m a v c hc with rfl | hc
    · exact hv
    · exact h.2 c hc

/-! ### Wider writes and the host's writes -/

theorem writeLow16_keeps_wf (m : Memory) (a : Nat) (v : Word) (h : memoryWf m = true) :
    memoryWf (writeLow16 m a v) = true :=
  writeByte_keeps_wf _ _ _ (writeByte_keeps_wf _ _ _ h)

theorem writeWord_keeps_wf (m : Memory) (a : Nat) (v : Word) (h : memoryWf m = true) :
    memoryWf (writeWord m a v) = true :=
  writeByte_keeps_wf _ _ _ (writeByte_keeps_wf _ _ _ (writeByte_keeps_wf _ _ _ (writeByte_keeps_wf _ _ _ h)))

theorem mem_writeWord (m : Memory) (a : Nat) (v : Word) (c : Host.Cell) (h : c ∈ writeWord m a v) :
    (a ≤ c.1 ∧ c.1 < a + 4) ∨ c ∈ m := by
  rcases mem_writeByte _ _ _ _ h with h | h
  · exact .inl ⟨by omega, by omega⟩
  rcases mem_writeByte _ _ _ _ h with h | h
  · exact .inl ⟨by omega, by omega⟩
  rcases mem_writeByte _ _ _ _ h with h | h
  · exact .inl ⟨by omega, by omega⟩
  rcases mem_writeByte _ _ _ _ h with h | h
  · exact .inl ⟨by omega, by omega⟩
  · exact .inr h

theorem mem_writeLow16 (m : Memory) (a : Nat) (v : Word) (c : Host.Cell) (h : c ∈ writeLow16 m a v) :
    (a ≤ c.1 ∧ c.1 < a + 2) ∨ c ∈ m := by
  rcases mem_writeByte _ _ _ _ h with h | h
  · exact .inl ⟨by omega, by omega⟩
  rcases mem_writeByte _ _ _ _ h with h | h
  · exact .inl ⟨by omega, by omega⟩
  · exact .inr h

/-- The host's writes keep the canonical form. -/
theorem hostWrites_keeps_wf (c : Config) (l : List Host.Cell) (m : Memory) (h : memoryWf m = true) :
    memoryWf (hostWrites c l m) = true := by
  induction l generalizing m with
  | nil => exact h
  | cons d t ih =>
    obtain ⟨a, b⟩ := d
    refine ih _ ?_
    split
    · exact writeByte_keeps_wf m a b h
    · exact h

/-- The host's writes list addresses of RAM only, beside what was listed. -/
theorem mem_hostWrites (c : Config) (l : List Host.Cell) (m : Memory) (e : Host.Cell) (h : e ∈ hostWrites c l m) :
    inRam c e.1 = true ∨ e ∈ m := by
  induction l generalizing m with
  | nil => exact .inr h
  | cons d t ih =>
    obtain ⟨a, b⟩ := d
    rcases ih _ h with h | h
    · exact .inl h
    · split at h
      · next hr =>
        rcases mem_writeByte m a b e h with h | h
        · exact .inl (h ▸ hr)
        · exact .inr h
      · exact .inr h

/-- A byte the host does not write keeps its value. -/
theorem readByte_hostWrites_of_not_listed (c : Config) (l : List Host.Cell) (m : Memory) (a : Nat)
    (h : ∀ d ∈ l, d.1 ≠ a) : readByte (hostWrites c l m) a = readByte m a := by
  induction l generalizing m with
  | nil => rfl
  | cons d t ih =>
    obtain ⟨k, b⟩ := d
    have hk : a ≠ k := fun e => h (k, b) List.mem_cons_self e.symm
    have ht := ih (if inRam c k then writeByte m k b else m) fun e he => h e (List.mem_cons_of_mem _ he)
    simp only [hostWrites]
    rw [ht]
    split
    · simp [hk]
    · rfl

/-- The memory after reset has the canonical form, whatever image the host loaded (R353). -/
theorem resetWith_mem_wf (c : Config) (image : List Host.Cell) : memoryWf (State.resetWith c image).mem = true :=
  hostWrites_keeps_wf c image [] rfl

/-- The memory of `State.reset` lists nothing. -/
theorem reset_mem : State.reset.mem = [] := rfl

/-- A word is its four bytes again (R73). -/
theorem word_of_bytes (v : Word) :
    v.extractLsb' 24 8 ++ v.extractLsb' 16 8 ++ v.extractLsb' 8 8 ++ v.extractLsb' 0 8 = v := by
  ext i hi
  simp only [BitVec.getElem_append, BitVec.getElem_extractLsb']
  rcases Nat.lt_or_ge i 8 with h | h
  · simp [h, BitVec.getLsbD_eq_getElem hi]
  rcases Nat.lt_or_ge i 16 with h' | h'
  · have h1 : i - 8 < 8 := by omega
    have h2 : 8 + (i - 8) = i := by omega
    simp [Nat.not_lt.2 h, h1, h2, BitVec.getLsbD_eq_getElem hi]
  rcases Nat.lt_or_ge i 24 with h'' | h''
  · have h1 : ¬ i - 8 < 8 := by omega
    have h2 : i - 8 - 8 < 8 := by omega
    have h3 : 16 + (i - 8 - 8) = i := by omega
    simp [Nat.not_lt.2 h, h1, h2, h3, BitVec.getLsbD_eq_getElem hi]
  · have h1 : ¬ i - 8 < 8 := by omega
    have h2 : ¬ i - 8 - 8 < 8 := by omega
    have h3 : 24 + (i - 8 - 8 - 8) = i := by omega
    simp [Nat.not_lt.2 h, h1, h2, h3, BitVec.getLsbD_eq_getElem hi]

/-- A word reads back as it was written. -/
@[simp] theorem readWord_writeWord (m : Memory) (a : Nat) (v : Word) : readWord (writeWord m a v) a = v := by
  simp only [readWord, writeWord, readByte_writeByte]
  simpa using word_of_bytes v

end Sys2Proof.Machine
end

