-- ==== Sys2Proof/Laws/State.lean ====
section
/-!
SUPPORT. What every update of the state does to every field: one lemma per field per update, true by unfolding, so that no
proof unfolds a record update. `x` reads a register through `xregs`.
-/

namespace Sys2Proof.Machine

variable (s : State)

/-! ### setX -/

@[simp] theorem State.setX_cfg (r : RegIx) (v : Word) : (s.setX r v).cfg = s.cfg := rfl
@[simp] theorem State.setX_xregs (r : RegIx) (v : Word) : (s.setX r v).xregs = if r = 0#5 then s.xregs else s.xregs.setIfInBounds (r.toNat - 1) v := rfl
@[simp] theorem State.setX_pc (r : RegIx) (v : Word) : (s.setX r v).pc = s.pc := rfl
@[simp] theorem State.setX_mstatus (r : RegIx) (v : Word) : (s.setX r v).mstatus = s.mstatus := rfl
@[simp] theorem State.setX_mie (r : RegIx) (v : Word) : (s.setX r v).mie = s.mie := rfl
@[simp] theorem State.setX_mip (r : RegIx) (v : Word) : (s.setX r v).mip = s.mip := rfl
@[simp] theorem State.setX_mtvec (r : RegIx) (v : Word) : (s.setX r v).mtvec = s.mtvec := rfl
@[simp] theorem State.setX_mscratch (r : RegIx) (v : Word) : (s.setX r v).mscratch = s.mscratch := rfl
@[simp] theorem State.setX_mepc (r : RegIx) (v : Word) : (s.setX r v).mepc = s.mepc := rfl
@[simp] theorem State.setX_mcause (r : RegIx) (v : Word) : (s.setX r v).mcause = s.mcause := rfl
@[simp] theorem State.setX_mtval (r : RegIx) (v : Word) : (s.setX r v).mtval = s.mtval := rfl
@[simp] theorem State.setX_cycle (r : RegIx) (v : Word) : (s.setX r v).cycle = s.cycle := rfl
@[simp] theorem State.setX_timer (r : RegIx) (v : Word) : (s.setX r v).timer = s.timer := rfl
@[simp] theorem State.setX_timermatch (r : RegIx) (v : Word) : (s.setX r v).timermatch = s.timermatch := rfl
@[simp] theorem State.setX_priv (r : RegIx) (v : Word) : (s.setX r v).priv = s.priv := rfl
@[simp] theorem State.setX_wfi (r : RegIx) (v : Word) : (s.setX r v).wfi = s.wfi := rfl
@[simp] theorem State.setX_resv (r : RegIx) (v : Word) : (s.setX r v).resv = s.resv := rfl
@[simp] theorem State.setX_mem (r : RegIx) (v : Word) : (s.setX r v).mem = s.mem := rfl
@[simp] theorem State.setX_status (r : RegIx) (v : Word) : (s.setX r v).status = s.status := rfl
@[simp] theorem State.setX_call (r : RegIx) (v : Word) : (s.setX r v).call = s.call := rfl
@[simp] theorem State.setX_runCycle (r : RegIx) (v : Word) : (s.setX r v).runCycle = s.runCycle := rfl
@[simp] theorem State.setX_insn (r : RegIx) (v : Word) : (s.setX r v).insn = s.insn := rfl
@[simp] theorem State.setX_events (r : RegIx) (v : Word) : (s.setX r v).events = s.events := rfl
@[simp] theorem State.setX_calls (r : RegIx) (v : Word) : (s.setX r v).calls = s.calls := rfl
@[simp] theorem State.setX_replies (r : RegIx) (v : Word) : (s.setX r v).replies = s.replies := rfl
@[simp] theorem State.setX_draws (r : RegIx) (v : Word) : (s.setX r v).draws = s.draws := rfl

/-! ### setPc -/

@[simp] theorem State.setPc_cfg (p : Word) : (s.setPc p).cfg = s.cfg := rfl
@[simp] theorem State.setPc_xregs (p : Word) : (s.setPc p).xregs = s.xregs := rfl
@[simp] theorem State.setPc_pc (p : Word) : (s.setPc p).pc = p := rfl
@[simp] theorem State.setPc_mstatus (p : Word) : (s.setPc p).mstatus = s.mstatus := rfl
@[simp] theorem State.setPc_mie (p : Word) : (s.setPc p).mie = s.mie := rfl
@[simp] theorem State.setPc_mip (p : Word) : (s.setPc p).mip = s.mip := rfl
@[simp] theorem State.setPc_mtvec (p : Word) : (s.setPc p).mtvec = s.mtvec := rfl
@[simp] theorem State.setPc_mscratch (p : Word) : (s.setPc p).mscratch = s.mscratch := rfl
@[simp] theorem State.setPc_mepc (p : Word) : (s.setPc p).mepc = s.mepc := rfl
@[simp] theorem State.setPc_mcause (p : Word) : (s.setPc p).mcause = s.mcause := rfl
@[simp] theorem State.setPc_mtval (p : Word) : (s.setPc p).mtval = s.mtval := rfl
@[simp] theorem State.setPc_cycle (p : Word) : (s.setPc p).cycle = s.cycle := rfl
@[simp] theorem State.setPc_timer (p : Word) : (s.setPc p).timer = s.timer := rfl
@[simp] theorem State.setPc_timermatch (p : Word) : (s.setPc p).timermatch = s.timermatch := rfl
@[simp] theorem State.setPc_priv (p : Word) : (s.setPc p).priv = s.priv := rfl
@[simp] theorem State.setPc_wfi (p : Word) : (s.setPc p).wfi = s.wfi := rfl
@[simp] theorem State.setPc_resv (p : Word) : (s.setPc p).resv = s.resv := rfl
@[simp] theorem State.setPc_mem (p : Word) : (s.setPc p).mem = s.mem := rfl
@[simp] theorem State.setPc_status (p : Word) : (s.setPc p).status = s.status := rfl
@[simp] theorem State.setPc_call (p : Word) : (s.setPc p).call = s.call := rfl
@[simp] theorem State.setPc_runCycle (p : Word) : (s.setPc p).runCycle = s.runCycle := rfl
@[simp] theorem State.setPc_insn (p : Word) : (s.setPc p).insn = s.insn := rfl
@[simp] theorem State.setPc_events (p : Word) : (s.setPc p).events = s.events := rfl
@[simp] theorem State.setPc_calls (p : Word) : (s.setPc p).calls = s.calls := rfl
@[simp] theorem State.setPc_replies (p : Word) : (s.setPc p).replies = s.replies := rfl
@[simp] theorem State.setPc_draws (p : Word) : (s.setPc p).draws = s.draws := rfl
@[simp] theorem State.setPc_x (p : Word) (r : RegIx) : (s.setPc p).x r = s.x r := rfl

/-! ### advance -/

@[simp] theorem State.advance_cfg : (s.advance).cfg = s.cfg := rfl
@[simp] theorem State.advance_xregs : (s.advance).xregs = s.xregs := rfl
@[simp] theorem State.advance_pc : (s.advance).pc = s.pc + 4#32 := rfl
@[simp] theorem State.advance_mstatus : (s.advance).mstatus = s.mstatus := rfl
@[simp] theorem State.advance_mie : (s.advance).mie = s.mie := rfl
@[simp] theorem State.advance_mip : (s.advance).mip = s.mip := rfl
@[simp] theorem State.advance_mtvec : (s.advance).mtvec = s.mtvec := rfl
@[simp] theorem State.advance_mscratch : (s.advance).mscratch = s.mscratch := rfl
@[simp] theorem State.advance_mepc : (s.advance).mepc = s.mepc := rfl
@[simp] theorem State.advance_mcause : (s.advance).mcause = s.mcause := rfl
@[simp] theorem State.advance_mtval : (s.advance).mtval = s.mtval := rfl
@[simp] theorem State.advance_cycle : (s.advance).cycle = s.cycle := rfl
@[simp] theorem State.advance_timer : (s.advance).timer = s.timer := rfl
@[simp] theorem State.advance_timermatch : (s.advance).timermatch = s.timermatch := rfl
@[simp] theorem State.advance_priv : (s.advance).priv = s.priv := rfl
@[simp] theorem State.advance_wfi : (s.advance).wfi = s.wfi := rfl
@[simp] theorem State.advance_resv : (s.advance).resv = s.resv := rfl
@[simp] theorem State.advance_mem : (s.advance).mem = s.mem := rfl
@[simp] theorem State.advance_status : (s.advance).status = s.status := rfl
@[simp] theorem State.advance_call : (s.advance).call = s.call := rfl
@[simp] theorem State.advance_runCycle : (s.advance).runCycle = s.runCycle := rfl
@[simp] theorem State.advance_insn : (s.advance).insn = s.insn := rfl
@[simp] theorem State.advance_events : (s.advance).events = s.events := rfl
@[simp] theorem State.advance_calls : (s.advance).calls = s.calls := rfl
@[simp] theorem State.advance_replies : (s.advance).replies = s.replies := rfl
@[simp] theorem State.advance_draws : (s.advance).draws = s.draws := rfl
@[simp] theorem State.advance_x (r : RegIx) : (s.advance).x r = s.x r := rfl

/-! ### retire -/

@[simp] theorem State.retire_cfg (r : RegIx) (v : Word) : (s.retire r v).cfg = s.cfg := rfl
@[simp] theorem State.retire_xregs (r : RegIx) (v : Word) : (s.retire r v).xregs = (s.setX r v).xregs := rfl
@[simp] theorem State.retire_pc (r : RegIx) (v : Word) : (s.retire r v).pc = s.pc + 4#32 := rfl
@[simp] theorem State.retire_mstatus (r : RegIx) (v : Word) : (s.retire r v).mstatus = s.mstatus := rfl
@[simp] theorem State.retire_mie (r : RegIx) (v : Word) : (s.retire r v).mie = s.mie := rfl
@[simp] theorem State.retire_mip (r : RegIx) (v : Word) : (s.retire r v).mip = s.mip := rfl
@[simp] theorem State.retire_mtvec (r : RegIx) (v : Word) : (s.retire r v).mtvec = s.mtvec := rfl
@[simp] theorem State.retire_mscratch (r : RegIx) (v : Word) : (s.retire r v).mscratch = s.mscratch := rfl
@[simp] theorem State.retire_mepc (r : RegIx) (v : Word) : (s.retire r v).mepc = s.mepc := rfl
@[simp] theorem State.retire_mcause (r : RegIx) (v : Word) : (s.retire r v).mcause = s.mcause := rfl
@[simp] theorem State.retire_mtval (r : RegIx) (v : Word) : (s.retire r v).mtval = s.mtval := rfl
@[simp] theorem State.retire_cycle (r : RegIx) (v : Word) : (s.retire r v).cycle = s.cycle := rfl
@[simp] theorem State.retire_timer (r : RegIx) (v : Word) : (s.retire r v).timer = s.timer := rfl
@[simp] theorem State.retire_timermatch (r : RegIx) (v : Word) : (s.retire r v).timermatch = s.timermatch := rfl
@[simp] theorem State.retire_priv (r : RegIx) (v : Word) : (s.retire r v).priv = s.priv := rfl
@[simp] theorem State.retire_wfi (r : RegIx) (v : Word) : (s.retire r v).wfi = s.wfi := rfl
@[simp] theorem State.retire_resv (r : RegIx) (v : Word) : (s.retire r v).resv = s.resv := rfl
@[simp] theorem State.retire_mem (r : RegIx) (v : Word) : (s.retire r v).mem = s.mem := rfl
@[simp] theorem State.retire_status (r : RegIx) (v : Word) : (s.retire r v).status = s.status := rfl
@[simp] theorem State.retire_call (r : RegIx) (v : Word) : (s.retire r v).call = s.call := rfl
@[simp] theorem State.retire_runCycle (r : RegIx) (v : Word) : (s.retire r v).runCycle = s.runCycle := rfl
@[simp] theorem State.retire_insn (r : RegIx) (v : Word) : (s.retire r v).insn = s.insn := rfl
@[simp] theorem State.retire_events (r : RegIx) (v : Word) : (s.retire r v).events = s.events := rfl
@[simp] theorem State.retire_calls (r : RegIx) (v : Word) : (s.retire r v).calls = s.calls := rfl
@[simp] theorem State.retire_replies (r : RegIx) (v : Word) : (s.retire r v).replies = s.replies := rfl
@[simp] theorem State.retire_draws (r : RegIx) (v : Word) : (s.retire r v).draws = s.draws := rfl

/-! ### log -/

@[simp] theorem State.log_cfg (e : HostEvent) : (s.log e).cfg = s.cfg := rfl
@[simp] theorem State.log_xregs (e : HostEvent) : (s.log e).xregs = s.xregs := rfl
@[simp] theorem State.log_pc (e : HostEvent) : (s.log e).pc = s.pc := rfl
@[simp] theorem State.log_mstatus (e : HostEvent) : (s.log e).mstatus = s.mstatus := rfl
@[simp] theorem State.log_mie (e : HostEvent) : (s.log e).mie = s.mie := rfl
@[simp] theorem State.log_mip (e : HostEvent) : (s.log e).mip = s.mip := rfl
@[simp] theorem State.log_mtvec (e : HostEvent) : (s.log e).mtvec = s.mtvec := rfl
@[simp] theorem State.log_mscratch (e : HostEvent) : (s.log e).mscratch = s.mscratch := rfl
@[simp] theorem State.log_mepc (e : HostEvent) : (s.log e).mepc = s.mepc := rfl
@[simp] theorem State.log_mcause (e : HostEvent) : (s.log e).mcause = s.mcause := rfl
@[simp] theorem State.log_mtval (e : HostEvent) : (s.log e).mtval = s.mtval := rfl
@[simp] theorem State.log_cycle (e : HostEvent) : (s.log e).cycle = s.cycle := rfl
@[simp] theorem State.log_timer (e : HostEvent) : (s.log e).timer = s.timer := rfl
@[simp] theorem State.log_timermatch (e : HostEvent) : (s.log e).timermatch = s.timermatch := rfl
@[simp] theorem State.log_priv (e : HostEvent) : (s.log e).priv = s.priv := rfl
@[simp] theorem State.log_wfi (e : HostEvent) : (s.log e).wfi = s.wfi := rfl
@[simp] theorem State.log_resv (e : HostEvent) : (s.log e).resv = s.resv := rfl
@[simp] theorem State.log_mem (e : HostEvent) : (s.log e).mem = s.mem := rfl
@[simp] theorem State.log_status (e : HostEvent) : (s.log e).status = s.status := rfl
@[simp] theorem State.log_call (e : HostEvent) : (s.log e).call = s.call := rfl
@[simp] theorem State.log_runCycle (e : HostEvent) : (s.log e).runCycle = s.runCycle := rfl
@[simp] theorem State.log_insn (e : HostEvent) : (s.log e).insn = s.insn := rfl
@[simp] theorem State.log_events (e : HostEvent) : (s.log e).events = s.events ++ [e] := rfl
@[simp] theorem State.log_calls (e : HostEvent) : (s.log e).calls = s.calls := rfl
@[simp] theorem State.log_replies (e : HostEvent) : (s.log e).replies = s.replies := rfl
@[simp] theorem State.log_draws (e : HostEvent) : (s.log e).draws = s.draws := rfl
@[simp] theorem State.log_x (e : HostEvent) (r : RegIx) : (s.log e).x r = s.x r := rfl

/-! ### commitCycle -/

@[simp] theorem State.commitCycle_cfg : (s.commitCycle).cfg = s.cfg := rfl
@[simp] theorem State.commitCycle_xregs : (s.commitCycle).xregs = s.xregs := rfl
@[simp] theorem State.commitCycle_pc : (s.commitCycle).pc = s.pc := rfl
@[simp] theorem State.commitCycle_mstatus : (s.commitCycle).mstatus = s.mstatus := rfl
@[simp] theorem State.commitCycle_mie : (s.commitCycle).mie = s.mie := rfl
@[simp] theorem State.commitCycle_mip : (s.commitCycle).mip = s.mip := rfl
@[simp] theorem State.commitCycle_mtvec : (s.commitCycle).mtvec = s.mtvec := rfl
@[simp] theorem State.commitCycle_mscratch : (s.commitCycle).mscratch = s.mscratch := rfl
@[simp] theorem State.commitCycle_mepc : (s.commitCycle).mepc = s.mepc := rfl
@[simp] theorem State.commitCycle_mcause : (s.commitCycle).mcause = s.mcause := rfl
@[simp] theorem State.commitCycle_mtval : (s.commitCycle).mtval = s.mtval := rfl
@[simp] theorem State.commitCycle_cycle : (s.commitCycle).cycle = committed s.cycle s.runCycle := rfl
@[simp] theorem State.commitCycle_timer : (s.commitCycle).timer = s.timer := rfl
@[simp] theorem State.commitCycle_timermatch : (s.commitCycle).timermatch = s.timermatch := rfl
@[simp] theorem State.commitCycle_priv : (s.commitCycle).priv = s.priv := rfl
@[simp] theorem State.commitCycle_wfi : (s.commitCycle).wfi = s.wfi := rfl
@[simp] theorem State.commitCycle_resv : (s.commitCycle).resv = s.resv := rfl
@[simp] theorem State.commitCycle_mem : (s.commitCycle).mem = s.mem := rfl
@[simp] theorem State.commitCycle_status : (s.commitCycle).status = s.status := rfl
@[simp] theorem State.commitCycle_call : (s.commitCycle).call = s.call := rfl
@[simp] theorem State.commitCycle_runCycle : (s.commitCycle).runCycle = s.runCycle := rfl
@[simp] theorem State.commitCycle_insn : (s.commitCycle).insn = s.insn := rfl
@[simp] theorem State.commitCycle_events : (s.commitCycle).events = s.events := rfl
@[simp] theorem State.commitCycle_calls : (s.commitCycle).calls = s.calls := rfl
@[simp] theorem State.commitCycle_replies : (s.commitCycle).replies = s.replies := rfl
@[simp] theorem State.commitCycle_draws : (s.commitCycle).draws = s.draws := rfl
@[simp] theorem State.commitCycle_x (r : RegIx) : (s.commitCycle).x r = s.x r := rfl

/-! ### returnCall -/

@[simp] theorem State.returnCall_cfg (o : CallOutcome) : (s.returnCall o).cfg = s.cfg := rfl
@[simp] theorem State.returnCall_xregs (o : CallOutcome) : (s.returnCall o).xregs = s.xregs := rfl
@[simp] theorem State.returnCall_pc (o : CallOutcome) : (s.returnCall o).pc = s.pc := rfl
@[simp] theorem State.returnCall_mstatus (o : CallOutcome) : (s.returnCall o).mstatus = s.mstatus := rfl
@[simp] theorem State.returnCall_mie (o : CallOutcome) : (s.returnCall o).mie = s.mie := rfl
@[simp] theorem State.returnCall_mip (o : CallOutcome) : (s.returnCall o).mip = s.mip := rfl
@[simp] theorem State.returnCall_mtvec (o : CallOutcome) : (s.returnCall o).mtvec = s.mtvec := rfl
@[simp] theorem State.returnCall_mscratch (o : CallOutcome) : (s.returnCall o).mscratch = s.mscratch := rfl
@[simp] theorem State.returnCall_mepc (o : CallOutcome) : (s.returnCall o).mepc = s.mepc := rfl
@[simp] theorem State.returnCall_mcause (o : CallOutcome) : (s.returnCall o).mcause = s.mcause := rfl
@[simp] theorem State.returnCall_mtval (o : CallOutcome) : (s.returnCall o).mtval = s.mtval := rfl
@[simp] theorem State.returnCall_cycle (o : CallOutcome) : (s.returnCall o).cycle = s.cycle := rfl
@[simp] theorem State.returnCall_timer (o : CallOutcome) : (s.returnCall o).timer = s.timer := rfl
@[simp] theorem State.returnCall_timermatch (o : CallOutcome) : (s.returnCall o).timermatch = s.timermatch := rfl
@[simp] theorem State.returnCall_priv (o : CallOutcome) : (s.returnCall o).priv = s.priv := rfl
@[simp] theorem State.returnCall_wfi (o : CallOutcome) : (s.returnCall o).wfi = s.wfi := rfl
@[simp] theorem State.returnCall_resv (o : CallOutcome) : (s.returnCall o).resv = s.resv := rfl
@[simp] theorem State.returnCall_mem (o : CallOutcome) : (s.returnCall o).mem = s.mem := rfl
@[simp] theorem State.returnCall_status (o : CallOutcome) : (s.returnCall o).status = s.status := rfl
@[simp] theorem State.returnCall_call (o : CallOutcome) : (s.returnCall o).call = none := rfl
@[simp] theorem State.returnCall_runCycle (o : CallOutcome) : (s.returnCall o).runCycle = s.runCycle := rfl
@[simp] theorem State.returnCall_insn (o : CallOutcome) : (s.returnCall o).insn = s.insn := rfl
@[simp] theorem State.returnCall_events (o : CallOutcome) : (s.returnCall o).events = s.events ++ [.returned o] := rfl
@[simp] theorem State.returnCall_calls (o : CallOutcome) : (s.returnCall o).calls = s.calls := rfl
@[simp] theorem State.returnCall_replies (o : CallOutcome) : (s.returnCall o).replies = s.replies := rfl
@[simp] theorem State.returnCall_draws (o : CallOutcome) : (s.returnCall o).draws = s.draws := rfl
@[simp] theorem State.returnCall_x (o : CallOutcome) (r : RegIx) : (s.returnCall o).x r = s.x r := rfl

/-! ### returnNormal -/

@[simp] theorem State.returnNormal_cfg : (s.returnNormal).cfg = s.cfg := rfl
@[simp] theorem State.returnNormal_xregs : (s.returnNormal).xregs = s.xregs := rfl
@[simp] theorem State.returnNormal_pc : (s.returnNormal).pc = s.pc := rfl
@[simp] theorem State.returnNormal_mstatus : (s.returnNormal).mstatus = s.mstatus := rfl
@[simp] theorem State.returnNormal_mie : (s.returnNormal).mie = s.mie := rfl
@[simp] theorem State.returnNormal_mip : (s.returnNormal).mip = s.mip := rfl
@[simp] theorem State.returnNormal_mtvec : (s.returnNormal).mtvec = s.mtvec := rfl
@[simp] theorem State.returnNormal_mscratch : (s.returnNormal).mscratch = s.mscratch := rfl
@[simp] theorem State.returnNormal_mepc : (s.returnNormal).mepc = s.mepc := rfl
@[simp] theorem State.returnNormal_mcause : (s.returnNormal).mcause = s.mcause := rfl
@[simp] theorem State.returnNormal_mtval : (s.returnNormal).mtval = s.mtval := rfl
@[simp] theorem State.returnNormal_cycle : (s.returnNormal).cycle = committed s.cycle s.runCycle := rfl
@[simp] theorem State.returnNormal_timer : (s.returnNormal).timer = s.timer := rfl
@[simp] theorem State.returnNormal_timermatch : (s.returnNormal).timermatch = s.timermatch := rfl
@[simp] theorem State.returnNormal_priv : (s.returnNormal).priv = s.priv := rfl
@[simp] theorem State.returnNormal_wfi : (s.returnNormal).wfi = s.wfi := rfl
@[simp] theorem State.returnNormal_resv : (s.returnNormal).resv = s.resv := rfl
@[simp] theorem State.returnNormal_mem : (s.returnNormal).mem = s.mem := rfl
@[simp] theorem State.returnNormal_status : (s.returnNormal).status = s.status := rfl
@[simp] theorem State.returnNormal_call : (s.returnNormal).call = none := rfl
@[simp] theorem State.returnNormal_runCycle : (s.returnNormal).runCycle = s.runCycle := rfl
@[simp] theorem State.returnNormal_insn : (s.returnNormal).insn = s.insn := rfl
@[simp] theorem State.returnNormal_events : (s.returnNormal).events = s.events ++ [.returned .normal] := rfl
@[simp] theorem State.returnNormal_calls : (s.returnNormal).calls = s.calls := rfl
@[simp] theorem State.returnNormal_replies : (s.returnNormal).replies = s.replies := rfl
@[simp] theorem State.returnNormal_draws : (s.returnNormal).draws = s.draws := rfl
@[simp] theorem State.returnNormal_x (r : RegIx) : (s.returnNormal).x r = s.x r := rfl

/-! ### takeTrap -/

@[simp] theorem State.takeTrap_cfg (cause epc tval : Word) : (s.takeTrap cause epc tval).cfg = s.cfg := rfl
@[simp] theorem State.takeTrap_xregs (cause epc tval : Word) : (s.takeTrap cause epc tval).xregs = s.xregs := rfl
@[simp] theorem State.takeTrap_pc (cause epc tval : Word) : (s.takeTrap cause epc tval).pc = s.mtvec := rfl
@[simp] theorem State.takeTrap_mstatus (cause epc tval : Word) : (s.takeTrap cause epc tval).mstatus = trapMstatus s.mstatus s.priv := rfl
@[simp] theorem State.takeTrap_mie (cause epc tval : Word) : (s.takeTrap cause epc tval).mie = s.mie := rfl
@[simp] theorem State.takeTrap_mip (cause epc tval : Word) : (s.takeTrap cause epc tval).mip = s.mip := rfl
@[simp] theorem State.takeTrap_mtvec (cause epc tval : Word) : (s.takeTrap cause epc tval).mtvec = s.mtvec := rfl
@[simp] theorem State.takeTrap_mscratch (cause epc tval : Word) : (s.takeTrap cause epc tval).mscratch = s.mscratch := rfl
@[simp] theorem State.takeTrap_mepc (cause epc tval : Word) : (s.takeTrap cause epc tval).mepc = epc := rfl
@[simp] theorem State.takeTrap_mcause (cause epc tval : Word) : (s.takeTrap cause epc tval).mcause = cause := rfl
@[simp] theorem State.takeTrap_mtval (cause epc tval : Word) : (s.takeTrap cause epc tval).mtval = tval := rfl
@[simp] theorem State.takeTrap_cycle (cause epc tval : Word) : (s.takeTrap cause epc tval).cycle = s.cycle := rfl
@[simp] theorem State.takeTrap_timer (cause epc tval : Word) : (s.takeTrap cause epc tval).timer = s.timer := rfl
@[simp] theorem State.takeTrap_timermatch (cause epc tval : Word) : (s.takeTrap cause epc tval).timermatch = s.timermatch := rfl
@[simp] theorem State.takeTrap_priv (cause epc tval : Word) : (s.takeTrap cause epc tval).priv = 3#2 := rfl
@[simp] theorem State.takeTrap_wfi (cause epc tval : Word) : (s.takeTrap cause epc tval).wfi = s.wfi := rfl
@[simp] theorem State.takeTrap_resv (cause epc tval : Word) : (s.takeTrap cause epc tval).resv = s.resv := rfl
@[simp] theorem State.takeTrap_mem (cause epc tval : Word) : (s.takeTrap cause epc tval).mem = s.mem := rfl
@[simp] theorem State.takeTrap_status (cause epc tval : Word) : (s.takeTrap cause epc tval).status = s.status := rfl
@[simp] theorem State.takeTrap_call (cause epc tval : Word) : (s.takeTrap cause epc tval).call = s.call := rfl
@[simp] theorem State.takeTrap_runCycle (cause epc tval : Word) : (s.takeTrap cause epc tval).runCycle = s.runCycle := rfl
@[simp] theorem State.takeTrap_insn (cause epc tval : Word) : (s.takeTrap cause epc tval).insn = s.insn := rfl
@[simp] theorem State.takeTrap_events (cause epc tval : Word) : (s.takeTrap cause epc tval).events = s.events := rfl
@[simp] theorem State.takeTrap_calls (cause epc tval : Word) : (s.takeTrap cause epc tval).calls = s.calls := rfl
@[simp] theorem State.takeTrap_replies (cause epc tval : Word) : (s.takeTrap cause epc tval).replies = s.replies := rfl
@[simp] theorem State.takeTrap_draws (cause epc tval : Word) : (s.takeTrap cause epc tval).draws = s.draws := rfl
@[simp] theorem State.takeTrap_x (cause epc tval : Word) (r : RegIx) : (s.takeTrap cause epc tval).x r = s.x r := rfl

/-! ### abort -/

@[simp] theorem State.abort_cfg (e : Exc) : (s.abort e).cfg = s.cfg := rfl
@[simp] theorem State.abort_xregs (e : Exc) : (s.abort e).xregs = s.xregs := rfl
@[simp] theorem State.abort_pc (e : Exc) : (s.abort e).pc = s.pc := rfl
@[simp] theorem State.abort_mstatus (e : Exc) : (s.abort e).mstatus = s.mstatus := rfl
@[simp] theorem State.abort_mie (e : Exc) : (s.abort e).mie = s.mie := rfl
@[simp] theorem State.abort_mip (e : Exc) : (s.abort e).mip = s.mip := rfl
@[simp] theorem State.abort_mtvec (e : Exc) : (s.abort e).mtvec = s.mtvec := rfl
@[simp] theorem State.abort_mscratch (e : Exc) : (s.abort e).mscratch = s.mscratch := rfl
@[simp] theorem State.abort_mepc (e : Exc) : (s.abort e).mepc = s.mepc := rfl
@[simp] theorem State.abort_mcause (e : Exc) : (s.abort e).mcause = s.mcause := rfl
@[simp] theorem State.abort_mtval (e : Exc) : (s.abort e).mtval = s.mtval := rfl
@[simp] theorem State.abort_cycle (e : Exc) : (s.abort e).cycle = s.cycle := rfl
@[simp] theorem State.abort_timer (e : Exc) : (s.abort e).timer = s.timer := rfl
@[simp] theorem State.abort_timermatch (e : Exc) : (s.abort e).timermatch = s.timermatch := rfl
@[simp] theorem State.abort_priv (e : Exc) : (s.abort e).priv = s.priv := rfl
@[simp] theorem State.abort_wfi (e : Exc) : (s.abort e).wfi = s.wfi := rfl
@[simp] theorem State.abort_resv (e : Exc) : (s.abort e).resv = s.resv := rfl
@[simp] theorem State.abort_mem (e : Exc) : (s.abort e).mem = s.mem := rfl
@[simp] theorem State.abort_status (e : Exc) : (s.abort e).status = .aborted e := rfl
@[simp] theorem State.abort_call (e : Exc) : (s.abort e).call = none := rfl
@[simp] theorem State.abort_runCycle (e : Exc) : (s.abort e).runCycle = s.runCycle := rfl
@[simp] theorem State.abort_insn (e : Exc) : (s.abort e).insn = s.insn := rfl
@[simp] theorem State.abort_events (e : Exc) : (s.abort e).events = s.events ++ [.returned (.aborted e)] := rfl
@[simp] theorem State.abort_calls (e : Exc) : (s.abort e).calls = s.calls := rfl
@[simp] theorem State.abort_replies (e : Exc) : (s.abort e).replies = s.replies := rfl
@[simp] theorem State.abort_draws (e : Exc) : (s.abort e).draws = s.draws := rfl
@[simp] theorem State.abort_x (e : Exc) (r : RegIx) : (s.abort e).x r = s.x r := rfl

/-! ### trapHere -/

@[simp] theorem State.trapHere_cfg (e : Exc) (tval : Word) : (s.trapHere e tval).cfg = s.cfg := rfl
@[simp] theorem State.trapHere_xregs (e : Exc) (tval : Word) : (s.trapHere e tval).xregs = s.xregs := rfl
@[simp] theorem State.trapHere_pc (e : Exc) (tval : Word) : (s.trapHere e tval).pc = s.mtvec := rfl
@[simp] theorem State.trapHere_mstatus (e : Exc) (tval : Word) : (s.trapHere e tval).mstatus = trapMstatus s.mstatus s.priv := rfl
@[simp] theorem State.trapHere_mie (e : Exc) (tval : Word) : (s.trapHere e tval).mie = s.mie := rfl
@[simp] theorem State.trapHere_mip (e : Exc) (tval : Word) : (s.trapHere e tval).mip = s.mip := rfl
@[simp] theorem State.trapHere_mtvec (e : Exc) (tval : Word) : (s.trapHere e tval).mtvec = s.mtvec := rfl
@[simp] theorem State.trapHere_mscratch (e : Exc) (tval : Word) : (s.trapHere e tval).mscratch = s.mscratch := rfl
@[simp] theorem State.trapHere_mepc (e : Exc) (tval : Word) : (s.trapHere e tval).mepc = s.pc := rfl
@[simp] theorem State.trapHere_mcause (e : Exc) (tval : Word) : (s.trapHere e tval).mcause = excCode e := rfl
@[simp] theorem State.trapHere_mtval (e : Exc) (tval : Word) : (s.trapHere e tval).mtval = tval := rfl
@[simp] theorem State.trapHere_cycle (e : Exc) (tval : Word) : (s.trapHere e tval).cycle = committed s.cycle s.runCycle := rfl
@[simp] theorem State.trapHere_timer (e : Exc) (tval : Word) : (s.trapHere e tval).timer = s.timer := rfl
@[simp] theorem State.trapHere_timermatch (e : Exc) (tval : Word) : (s.trapHere e tval).timermatch = s.timermatch := rfl
@[simp] theorem State.trapHere_priv (e : Exc) (tval : Word) : (s.trapHere e tval).priv = 3#2 := rfl
@[simp] theorem State.trapHere_wfi (e : Exc) (tval : Word) : (s.trapHere e tval).wfi = s.wfi := rfl
@[simp] theorem State.trapHere_resv (e : Exc) (tval : Word) : (s.trapHere e tval).resv = s.resv := rfl
@[simp] theorem State.trapHere_mem (e : Exc) (tval : Word) : (s.trapHere e tval).mem = s.mem := rfl
@[simp] theorem State.trapHere_status (e : Exc) (tval : Word) : (s.trapHere e tval).status = s.status := rfl
@[simp] theorem State.trapHere_call (e : Exc) (tval : Word) : (s.trapHere e tval).call = none := rfl
@[simp] theorem State.trapHere_runCycle (e : Exc) (tval : Word) : (s.trapHere e tval).runCycle = s.runCycle := rfl
@[simp] theorem State.trapHere_insn (e : Exc) (tval : Word) : (s.trapHere e tval).insn = s.insn := rfl
@[simp] theorem State.trapHere_events (e : Exc) (tval : Word) : (s.trapHere e tval).events = s.events ++ [.exception s.insn e] ++ [.returned .normal] := rfl
@[simp] theorem State.trapHere_calls (e : Exc) (tval : Word) : (s.trapHere e tval).calls = s.calls := rfl
@[simp] theorem State.trapHere_replies (e : Exc) (tval : Word) : (s.trapHere e tval).replies = s.replies := rfl
@[simp] theorem State.trapHere_draws (e : Exc) (tval : Word) : (s.trapHere e tval).draws = s.draws := rfl
@[simp] theorem State.trapHere_x (e : Exc) (tval : Word) (r : RegIx) : (s.trapHere e tval).x r = s.x r := rfl

/-! ### trapReturn -/

@[simp] theorem State.trapReturn_cfg : (s.trapReturn).cfg = s.cfg := rfl
@[simp] theorem State.trapReturn_xregs : (s.trapReturn).xregs = s.xregs := rfl
@[simp] theorem State.trapReturn_pc : (s.trapReturn).pc = s.mepc := rfl
@[simp] theorem State.trapReturn_mstatus : (s.trapReturn).mstatus = mretMstatus s.mstatus s.priv := rfl
@[simp] theorem State.trapReturn_mie : (s.trapReturn).mie = s.mie := rfl
@[simp] theorem State.trapReturn_mip : (s.trapReturn).mip = s.mip := rfl
@[simp] theorem State.trapReturn_mtvec : (s.trapReturn).mtvec = s.mtvec := rfl
@[simp] theorem State.trapReturn_mscratch : (s.trapReturn).mscratch = s.mscratch := rfl
@[simp] theorem State.trapReturn_mepc : (s.trapReturn).mepc = s.mepc := rfl
@[simp] theorem State.trapReturn_mcause : (s.trapReturn).mcause = s.mcause := rfl
@[simp] theorem State.trapReturn_mtval : (s.trapReturn).mtval = s.mtval := rfl
@[simp] theorem State.trapReturn_cycle : (s.trapReturn).cycle = s.cycle := rfl
@[simp] theorem State.trapReturn_timer : (s.trapReturn).timer = s.timer := rfl
@[simp] theorem State.trapReturn_timermatch : (s.trapReturn).timermatch = s.timermatch := rfl
@[simp] theorem State.trapReturn_priv : (s.trapReturn).priv = mppField s.mstatus := rfl
@[simp] theorem State.trapReturn_wfi : (s.trapReturn).wfi = s.wfi := rfl
@[simp] theorem State.trapReturn_resv : (s.trapReturn).resv = s.resv := rfl
@[simp] theorem State.trapReturn_mem : (s.trapReturn).mem = s.mem := rfl
@[simp] theorem State.trapReturn_status : (s.trapReturn).status = s.status := rfl
@[simp] theorem State.trapReturn_call : (s.trapReturn).call = s.call := rfl
@[simp] theorem State.trapReturn_runCycle : (s.trapReturn).runCycle = s.runCycle := rfl
@[simp] theorem State.trapReturn_insn : (s.trapReturn).insn = s.insn := rfl
@[simp] theorem State.trapReturn_events : (s.trapReturn).events = s.events := rfl
@[simp] theorem State.trapReturn_calls : (s.trapReturn).calls = s.calls := rfl
@[simp] theorem State.trapReturn_replies : (s.trapReturn).replies = s.replies := rfl
@[simp] theorem State.trapReturn_draws : (s.trapReturn).draws = s.draws := rfl
@[simp] theorem State.trapReturn_x (r : RegIx) : (s.trapReturn).x r = s.x r := rfl

/-! ### hostStop -/

@[simp] theorem State.hostStop_cfg (flag : Word) : (s.hostStop flag).cfg = s.cfg := rfl
@[simp] theorem State.hostStop_xregs (flag : Word) : (s.hostStop flag).xregs = s.xregs := rfl
@[simp] theorem State.hostStop_pc (flag : Word) : (s.hostStop flag).pc = s.pc := rfl
@[simp] theorem State.hostStop_mstatus (flag : Word) : (s.hostStop flag).mstatus = s.mstatus := rfl
@[simp] theorem State.hostStop_mie (flag : Word) : (s.hostStop flag).mie = s.mie := rfl
@[simp] theorem State.hostStop_mip (flag : Word) : (s.hostStop flag).mip = s.mip := rfl
@[simp] theorem State.hostStop_mtvec (flag : Word) : (s.hostStop flag).mtvec = s.mtvec := rfl
@[simp] theorem State.hostStop_mscratch (flag : Word) : (s.hostStop flag).mscratch = s.mscratch := rfl
@[simp] theorem State.hostStop_mepc (flag : Word) : (s.hostStop flag).mepc = s.mepc := rfl
@[simp] theorem State.hostStop_mcause (flag : Word) : (s.hostStop flag).mcause = s.mcause := rfl
@[simp] theorem State.hostStop_mtval (flag : Word) : (s.hostStop flag).mtval = s.mtval := rfl
@[simp] theorem State.hostStop_cycle (flag : Word) : (s.hostStop flag).cycle = s.cycle := rfl
@[simp] theorem State.hostStop_timer (flag : Word) : (s.hostStop flag).timer = s.timer := rfl
@[simp] theorem State.hostStop_timermatch (flag : Word) : (s.hostStop flag).timermatch = s.timermatch := rfl
@[simp] theorem State.hostStop_priv (flag : Word) : (s.hostStop flag).priv = s.priv := rfl
@[simp] theorem State.hostStop_wfi (flag : Word) : (s.hostStop flag).wfi = s.wfi := rfl
@[simp] theorem State.hostStop_resv (flag : Word) : (s.hostStop flag).resv = s.resv := rfl
@[simp] theorem State.hostStop_mem (flag : Word) : (s.hostStop flag).mem = s.mem := rfl
@[simp] theorem State.hostStop_status (flag : Word) : (s.hostStop flag).status = .hostStopped flag := rfl
@[simp] theorem State.hostStop_call (flag : Word) : (s.hostStop flag).call = none := rfl
@[simp] theorem State.hostStop_runCycle (flag : Word) : (s.hostStop flag).runCycle = s.runCycle := rfl
@[simp] theorem State.hostStop_insn (flag : Word) : (s.hostStop flag).insn = s.insn := rfl
@[simp] theorem State.hostStop_events (flag : Word) : (s.hostStop flag).events = s.events ++ [.returned (.hostStopped flag)] := rfl
@[simp] theorem State.hostStop_calls (flag : Word) : (s.hostStop flag).calls = s.calls := rfl
@[simp] theorem State.hostStop_replies (flag : Word) : (s.hostStop flag).replies = s.replies := rfl
@[simp] theorem State.hostStop_draws (flag : Word) : (s.hostStop flag).draws = s.draws := rfl
@[simp] theorem State.hostStop_x (flag : Word) (r : RegIx) : (s.hostStop flag).x r = s.x r := rfl

/-! ### popReply -/

@[simp] theorem State.popReply_cfg : (s.popReply).cfg = s.cfg := rfl
@[simp] theorem State.popReply_xregs : (s.popReply).xregs = s.xregs := rfl
@[simp] theorem State.popReply_pc : (s.popReply).pc = s.pc := rfl
@[simp] theorem State.popReply_mstatus : (s.popReply).mstatus = s.mstatus := rfl
@[simp] theorem State.popReply_mie : (s.popReply).mie = s.mie := rfl
@[simp] theorem State.popReply_mip : (s.popReply).mip = s.mip := rfl
@[simp] theorem State.popReply_mtvec : (s.popReply).mtvec = s.mtvec := rfl
@[simp] theorem State.popReply_mscratch : (s.popReply).mscratch = s.mscratch := rfl
@[simp] theorem State.popReply_mepc : (s.popReply).mepc = s.mepc := rfl
@[simp] theorem State.popReply_mcause : (s.popReply).mcause = s.mcause := rfl
@[simp] theorem State.popReply_mtval : (s.popReply).mtval = s.mtval := rfl
@[simp] theorem State.popReply_cycle : (s.popReply).cycle = s.cycle := rfl
@[simp] theorem State.popReply_timer : (s.popReply).timer = s.timer := rfl
@[simp] theorem State.popReply_timermatch : (s.popReply).timermatch = s.timermatch := rfl
@[simp] theorem State.popReply_priv : (s.popReply).priv = s.priv := rfl
@[simp] theorem State.popReply_wfi : (s.popReply).wfi = s.wfi := rfl
@[simp] theorem State.popReply_resv : (s.popReply).resv = s.resv := rfl
@[simp] theorem State.popReply_mem : (s.popReply).mem = s.mem := rfl
@[simp] theorem State.popReply_status : (s.popReply).status = s.status := rfl
@[simp] theorem State.popReply_call : (s.popReply).call = s.call := rfl
@[simp] theorem State.popReply_runCycle : (s.popReply).runCycle = s.runCycle := rfl
@[simp] theorem State.popReply_insn : (s.popReply).insn = s.insn := rfl
@[simp] theorem State.popReply_events : (s.popReply).events = s.events := rfl
@[simp] theorem State.popReply_calls : (s.popReply).calls = s.calls := rfl
@[simp] theorem State.popReply_replies : (s.popReply).replies = s.replies.tail := rfl
@[simp] theorem State.popReply_draws : (s.popReply).draws = if s.replies.isEmpty then s.draws + 1 else s.draws := rfl
@[simp] theorem State.popReply_x (r : RegIx) : (s.popReply).x r = s.x r := rfl

/-! ### applyDevice -/

@[simp] theorem State.applyDevice_cfg (r : HostReply) : (s.applyDevice r).cfg = s.cfg := rfl
@[simp] theorem State.applyDevice_xregs (r : HostReply) : (s.applyDevice r).xregs = s.xregs := rfl
@[simp] theorem State.applyDevice_pc (r : HostReply) : (s.applyDevice r).pc = s.pc := rfl
@[simp] theorem State.applyDevice_mstatus (r : HostReply) : (s.applyDevice r).mstatus = s.mstatus := rfl
@[simp] theorem State.applyDevice_mie (r : HostReply) : (s.applyDevice r).mie = s.mie := rfl
@[simp] theorem State.applyDevice_mip (r : HostReply) : (s.applyDevice r).mip = s.mip := rfl
@[simp] theorem State.applyDevice_mtvec (r : HostReply) : (s.applyDevice r).mtvec = s.mtvec := rfl
@[simp] theorem State.applyDevice_mscratch (r : HostReply) : (s.applyDevice r).mscratch = s.mscratch := rfl
@[simp] theorem State.applyDevice_mepc (r : HostReply) : (s.applyDevice r).mepc = s.mepc := rfl
@[simp] theorem State.applyDevice_mcause (r : HostReply) : (s.applyDevice r).mcause = s.mcause := rfl
@[simp] theorem State.applyDevice_mtval (r : HostReply) : (s.applyDevice r).mtval = s.mtval := rfl
@[simp] theorem State.applyDevice_cycle (r : HostReply) : (s.applyDevice r).cycle = s.cycle := rfl
@[simp] theorem State.applyDevice_timer (r : HostReply) : (s.applyDevice r).timer = r.timer.getD s.timer := rfl
@[simp] theorem State.applyDevice_timermatch (r : HostReply) : (s.applyDevice r).timermatch = r.timermatch.getD s.timermatch := rfl
@[simp] theorem State.applyDevice_priv (r : HostReply) : (s.applyDevice r).priv = s.priv := rfl
@[simp] theorem State.applyDevice_wfi (r : HostReply) : (s.applyDevice r).wfi = s.wfi := rfl
@[simp] theorem State.applyDevice_resv (r : HostReply) : (s.applyDevice r).resv = s.resv := rfl
@[simp] theorem State.applyDevice_mem (r : HostReply) : (s.applyDevice r).mem = s.mem := rfl
@[simp] theorem State.applyDevice_status (r : HostReply) : (s.applyDevice r).status = s.status := rfl
@[simp] theorem State.applyDevice_call (r : HostReply) : (s.applyDevice r).call = s.call := rfl
@[simp] theorem State.applyDevice_runCycle (r : HostReply) : (s.applyDevice r).runCycle = s.runCycle := rfl
@[simp] theorem State.applyDevice_insn (r : HostReply) : (s.applyDevice r).insn = s.insn := rfl
@[simp] theorem State.applyDevice_events (r : HostReply) : (s.applyDevice r).events = s.events := rfl
@[simp] theorem State.applyDevice_calls (r : HostReply) : (s.applyDevice r).calls = s.calls := rfl
@[simp] theorem State.applyDevice_replies (r : HostReply) : (s.applyDevice r).replies = s.replies := rfl
@[simp] theorem State.applyDevice_draws (r : HostReply) : (s.applyDevice r).draws = s.draws := rfl
@[simp] theorem State.applyDevice_x (r : HostReply) (q : RegIx) : (s.applyDevice r).x q = s.x q := rfl

/-! ### applyRam -/

@[simp] theorem State.applyRam_cfg (r : HostReply) : (s.applyRam r).cfg = s.cfg := rfl
@[simp] theorem State.applyRam_xregs (r : HostReply) : (s.applyRam r).xregs = s.xregs := rfl
@[simp] theorem State.applyRam_pc (r : HostReply) : (s.applyRam r).pc = s.pc := rfl
@[simp] theorem State.applyRam_mstatus (r : HostReply) : (s.applyRam r).mstatus = s.mstatus := rfl
@[simp] theorem State.applyRam_mie (r : HostReply) : (s.applyRam r).mie = s.mie := rfl
@[simp] theorem State.applyRam_mip (r : HostReply) : (s.applyRam r).mip = s.mip := rfl
@[simp] theorem State.applyRam_mtvec (r : HostReply) : (s.applyRam r).mtvec = s.mtvec := rfl
@[simp] theorem State.applyRam_mscratch (r : HostReply) : (s.applyRam r).mscratch = s.mscratch := rfl
@[simp] theorem State.applyRam_mepc (r : HostReply) : (s.applyRam r).mepc = s.mepc := rfl
@[simp] theorem State.applyRam_mcause (r : HostReply) : (s.applyRam r).mcause = s.mcause := rfl
@[simp] theorem State.applyRam_mtval (r : HostReply) : (s.applyRam r).mtval = s.mtval := rfl
@[simp] theorem State.applyRam_cycle (r : HostReply) : (s.applyRam r).cycle = s.cycle := rfl
@[simp] theorem State.applyRam_timer (r : HostReply) : (s.applyRam r).timer = s.timer := rfl
@[simp] theorem State.applyRam_timermatch (r : HostReply) : (s.applyRam r).timermatch = s.timermatch := rfl
@[simp] theorem State.applyRam_priv (r : HostReply) : (s.applyRam r).priv = s.priv := rfl
@[simp] theorem State.applyRam_wfi (r : HostReply) : (s.applyRam r).wfi = s.wfi := rfl
@[simp] theorem State.applyRam_resv (r : HostReply) : (s.applyRam r).resv = s.resv := rfl
@[simp] theorem State.applyRam_mem (r : HostReply) : (s.applyRam r).mem = hostWrites s.cfg r.ram s.mem := rfl
@[simp] theorem State.applyRam_status (r : HostReply) : (s.applyRam r).status = s.status := rfl
@[simp] theorem State.applyRam_call (r : HostReply) : (s.applyRam r).call = s.call := rfl
@[simp] theorem State.applyRam_runCycle (r : HostReply) : (s.applyRam r).runCycle = s.runCycle := rfl
@[simp] theorem State.applyRam_insn (r : HostReply) : (s.applyRam r).insn = s.insn := rfl
@[simp] theorem State.applyRam_events (r : HostReply) : (s.applyRam r).events = s.events := rfl
@[simp] theorem State.applyRam_calls (r : HostReply) : (s.applyRam r).calls = s.calls := rfl
@[simp] theorem State.applyRam_replies (r : HostReply) : (s.applyRam r).replies = s.replies := rfl
@[simp] theorem State.applyRam_draws (r : HostReply) : (s.applyRam r).draws = s.draws := rfl
@[simp] theorem State.applyRam_x (r : HostReply) (q : RegIx) : (s.applyRam r).x q = s.x q := rfl

/-! ### mmioHook -/

@[simp] theorem State.mmioHook_cfg (e : HostEvent) : (s.mmioHook e).cfg = s.cfg := rfl
@[simp] theorem State.mmioHook_xregs (e : HostEvent) : (s.mmioHook e).xregs = s.xregs := rfl
@[simp] theorem State.mmioHook_pc (e : HostEvent) : (s.mmioHook e).pc = s.pc := rfl
@[simp] theorem State.mmioHook_mstatus (e : HostEvent) : (s.mmioHook e).mstatus = s.mstatus := rfl
@[simp] theorem State.mmioHook_mie (e : HostEvent) : (s.mmioHook e).mie = s.mie := rfl
@[simp] theorem State.mmioHook_mip (e : HostEvent) : (s.mmioHook e).mip = s.mip := rfl
@[simp] theorem State.mmioHook_mtvec (e : HostEvent) : (s.mmioHook e).mtvec = s.mtvec := rfl
@[simp] theorem State.mmioHook_mscratch (e : HostEvent) : (s.mmioHook e).mscratch = s.mscratch := rfl
@[simp] theorem State.mmioHook_mepc (e : HostEvent) : (s.mmioHook e).mepc = s.mepc := rfl
@[simp] theorem State.mmioHook_mcause (e : HostEvent) : (s.mmioHook e).mcause = s.mcause := rfl
@[simp] theorem State.mmioHook_mtval (e : HostEvent) : (s.mmioHook e).mtval = s.mtval := rfl
@[simp] theorem State.mmioHook_cycle (e : HostEvent) : (s.mmioHook e).cycle = s.cycle := rfl
@[simp] theorem State.mmioHook_timer (e : HostEvent) : (s.mmioHook e).timer = s.reply.timer.getD s.timer := rfl
@[simp] theorem State.mmioHook_timermatch (e : HostEvent) : (s.mmioHook e).timermatch = s.reply.timermatch.getD s.timermatch := rfl
@[simp] theorem State.mmioHook_priv (e : HostEvent) : (s.mmioHook e).priv = s.priv := rfl
@[simp] theorem State.mmioHook_wfi (e : HostEvent) : (s.mmioHook e).wfi = s.wfi := rfl
@[simp] theorem State.mmioHook_resv (e : HostEvent) : (s.mmioHook e).resv = s.resv := rfl
@[simp] theorem State.mmioHook_mem (e : HostEvent) : (s.mmioHook e).mem = s.mem := rfl
@[simp] theorem State.mmioHook_status (e : HostEvent) : (s.mmioHook e).status = s.status := rfl
@[simp] theorem State.mmioHook_call (e : HostEvent) : (s.mmioHook e).call = s.call := rfl
@[simp] theorem State.mmioHook_runCycle (e : HostEvent) : (s.mmioHook e).runCycle = s.runCycle := rfl
@[simp] theorem State.mmioHook_insn (e : HostEvent) : (s.mmioHook e).insn = s.insn := rfl
@[simp] theorem State.mmioHook_events (e : HostEvent) : (s.mmioHook e).events = s.events ++ [e] := rfl
@[simp] theorem State.mmioHook_calls (e : HostEvent) : (s.mmioHook e).calls = s.calls := rfl
@[simp] theorem State.mmioHook_replies (e : HostEvent) : (s.mmioHook e).replies = s.replies.tail := rfl
@[simp] theorem State.mmioHook_draws (e : HostEvent) : (s.mmioHook e).draws = if s.replies.isEmpty then s.draws + 1 else s.draws := rfl
@[simp] theorem State.mmioHook_x (e : HostEvent) (r : RegIx) : (s.mmioHook e).x r = s.x r := rfl

/-! ### csrHook -/

@[simp] theorem State.csrHook_cfg (e : HostEvent) : (s.csrHook e).cfg = s.cfg := rfl
@[simp] theorem State.csrHook_xregs (e : HostEvent) : (s.csrHook e).xregs = s.xregs := rfl
@[simp] theorem State.csrHook_pc (e : HostEvent) : (s.csrHook e).pc = s.pc := rfl
@[simp] theorem State.csrHook_mstatus (e : HostEvent) : (s.csrHook e).mstatus = s.mstatus := rfl
@[simp] theorem State.csrHook_mie (e : HostEvent) : (s.csrHook e).mie = s.mie := rfl
@[simp] theorem State.csrHook_mip (e : HostEvent) : (s.csrHook e).mip = s.mip := rfl
@[simp] theorem State.csrHook_mtvec (e : HostEvent) : (s.csrHook e).mtvec = s.mtvec := rfl
@[simp] theorem State.csrHook_mscratch (e : HostEvent) : (s.csrHook e).mscratch = s.mscratch := rfl
@[simp] theorem State.csrHook_mepc (e : HostEvent) : (s.csrHook e).mepc = s.mepc := rfl
@[simp] theorem State.csrHook_mcause (e : HostEvent) : (s.csrHook e).mcause = s.mcause := rfl
@[simp] theorem State.csrHook_mtval (e : HostEvent) : (s.csrHook e).mtval = s.mtval := rfl
@[simp] theorem State.csrHook_cycle (e : HostEvent) : (s.csrHook e).cycle = s.cycle := rfl
@[simp] theorem State.csrHook_timer (e : HostEvent) : (s.csrHook e).timer = s.timer := rfl
@[simp] theorem State.csrHook_timermatch (e : HostEvent) : (s.csrHook e).timermatch = s.timermatch := rfl
@[simp] theorem State.csrHook_priv (e : HostEvent) : (s.csrHook e).priv = s.priv := rfl
@[simp] theorem State.csrHook_wfi (e : HostEvent) : (s.csrHook e).wfi = s.wfi := rfl
@[simp] theorem State.csrHook_resv (e : HostEvent) : (s.csrHook e).resv = s.resv := rfl
@[simp] theorem State.csrHook_mem (e : HostEvent) : (s.csrHook e).mem = hostWrites s.cfg s.reply.ram s.mem := rfl
@[simp] theorem State.csrHook_status (e : HostEvent) : (s.csrHook e).status = s.status := rfl
@[simp] theorem State.csrHook_call (e : HostEvent) : (s.csrHook e).call = s.call := rfl
@[simp] theorem State.csrHook_runCycle (e : HostEvent) : (s.csrHook e).runCycle = s.runCycle := rfl
@[simp] theorem State.csrHook_insn (e : HostEvent) : (s.csrHook e).insn = s.insn := rfl
@[simp] theorem State.csrHook_events (e : HostEvent) : (s.csrHook e).events = s.events ++ [e] := rfl
@[simp] theorem State.csrHook_calls (e : HostEvent) : (s.csrHook e).calls = s.calls := rfl
@[simp] theorem State.csrHook_replies (e : HostEvent) : (s.csrHook e).replies = s.replies.tail := rfl
@[simp] theorem State.csrHook_draws (e : HostEvent) : (s.csrHook e).draws = if s.replies.isEmpty then s.draws + 1 else s.draws := rfl
@[simp] theorem State.csrHook_x (e : HostEvent) (r : RegIx) : (s.csrHook e).x r = s.x r := rfl

/-! ### startCycle -/

@[simp] theorem State.startCycle_cfg : (s.startCycle).cfg = s.cfg := rfl
@[simp] theorem State.startCycle_xregs : (s.startCycle).xregs = s.xregs := rfl
@[simp] theorem State.startCycle_pc : (s.startCycle).pc = s.pc := rfl
@[simp] theorem State.startCycle_mstatus : (s.startCycle).mstatus = s.mstatus := rfl
@[simp] theorem State.startCycle_mie : (s.startCycle).mie = s.mie := rfl
@[simp] theorem State.startCycle_mip : (s.startCycle).mip = s.mip := rfl
@[simp] theorem State.startCycle_mtvec : (s.startCycle).mtvec = s.mtvec := rfl
@[simp] theorem State.startCycle_mscratch : (s.startCycle).mscratch = s.mscratch := rfl
@[simp] theorem State.startCycle_mepc : (s.startCycle).mepc = s.mepc := rfl
@[simp] theorem State.startCycle_mcause : (s.startCycle).mcause = s.mcause := rfl
@[simp] theorem State.startCycle_mtval : (s.startCycle).mtval = s.mtval := rfl
@[simp] theorem State.startCycle_cycle : (s.startCycle).cycle = s.cycle := rfl
@[simp] theorem State.startCycle_timer : (s.startCycle).timer = s.timer := rfl
@[simp] theorem State.startCycle_timermatch : (s.startCycle).timermatch = s.timermatch := rfl
@[simp] theorem State.startCycle_priv : (s.startCycle).priv = s.priv := rfl
@[simp] theorem State.startCycle_wfi : (s.startCycle).wfi = s.wfi := rfl
@[simp] theorem State.startCycle_resv : (s.startCycle).resv = s.resv := rfl
@[simp] theorem State.startCycle_mem : (s.startCycle).mem = s.mem := rfl
@[simp] theorem State.startCycle_status : (s.startCycle).status = s.status := rfl
@[simp] theorem State.startCycle_call : (s.startCycle).call = s.call := rfl
@[simp] theorem State.startCycle_runCycle : (s.startCycle).runCycle = s.cycle.extractLsb' 0 32 := rfl
@[simp] theorem State.startCycle_insn : (s.startCycle).insn = s.insn := rfl
@[simp] theorem State.startCycle_events : (s.startCycle).events = s.events := rfl
@[simp] theorem State.startCycle_calls : (s.startCycle).calls = s.calls := rfl
@[simp] theorem State.startCycle_replies : (s.startCycle).replies = s.replies := rfl
@[simp] theorem State.startCycle_draws : (s.startCycle).draws = s.draws := rfl
@[simp] theorem State.startCycle_x (r : RegIx) : (s.startCycle).x r = s.x r := rfl

/-! ### popCall -/

@[simp] theorem State.popCall_cfg : (s.popCall).cfg = s.cfg := rfl
@[simp] theorem State.popCall_xregs : (s.popCall).xregs = s.xregs := rfl
@[simp] theorem State.popCall_pc : (s.popCall).pc = s.pc := rfl
@[simp] theorem State.popCall_mstatus : (s.popCall).mstatus = s.mstatus := rfl
@[simp] theorem State.popCall_mie : (s.popCall).mie = s.mie := rfl
@[simp] theorem State.popCall_mip : (s.popCall).mip = s.mip := rfl
@[simp] theorem State.popCall_mtvec : (s.popCall).mtvec = s.mtvec := rfl
@[simp] theorem State.popCall_mscratch : (s.popCall).mscratch = s.mscratch := rfl
@[simp] theorem State.popCall_mepc : (s.popCall).mepc = s.mepc := rfl
@[simp] theorem State.popCall_mcause : (s.popCall).mcause = s.mcause := rfl
@[simp] theorem State.popCall_mtval : (s.popCall).mtval = s.mtval := rfl
@[simp] theorem State.popCall_cycle : (s.popCall).cycle = s.cycle := rfl
@[simp] theorem State.popCall_timer : (s.popCall).timer = s.timer := rfl
@[simp] theorem State.popCall_timermatch : (s.popCall).timermatch = s.timermatch := rfl
@[simp] theorem State.popCall_priv : (s.popCall).priv = s.priv := rfl
@[simp] theorem State.popCall_wfi : (s.popCall).wfi = s.wfi := rfl
@[simp] theorem State.popCall_resv : (s.popCall).resv = s.resv := rfl
@[simp] theorem State.popCall_mem : (s.popCall).mem = s.mem := rfl
@[simp] theorem State.popCall_status : (s.popCall).status = s.status := rfl
@[simp] theorem State.popCall_call : (s.popCall).call = s.call := rfl
@[simp] theorem State.popCall_runCycle : (s.popCall).runCycle = s.runCycle := rfl
@[simp] theorem State.popCall_insn : (s.popCall).insn = s.insn := rfl
@[simp] theorem State.popCall_events : (s.popCall).events = s.events := rfl
@[simp] theorem State.popCall_calls : (s.popCall).calls = s.calls.tail := rfl
@[simp] theorem State.popCall_replies : (s.popCall).replies = s.replies := rfl
@[simp] theorem State.popCall_draws : (s.popCall).draws = if s.calls.isEmpty then s.draws + 1 else s.draws := rfl
@[simp] theorem State.popCall_x (r : RegIx) : (s.popCall).x r = s.x r := rfl

/-! ### tick -/

@[simp] theorem State.tick_cfg (us : Word) : (s.tick us).cfg = s.cfg := rfl
@[simp] theorem State.tick_xregs (us : Word) : (s.tick us).xregs = s.xregs := rfl
@[simp] theorem State.tick_pc (us : Word) : (s.tick us).pc = s.pc := rfl
@[simp] theorem State.tick_mstatus (us : Word) : (s.tick us).mstatus = s.mstatus := rfl
@[simp] theorem State.tick_mie (us : Word) : (s.tick us).mie = s.mie := rfl
@[simp] theorem State.tick_mip (us : Word) : (s.tick us).mip = withMtip s.mip (timerFires (s.timer + us.setWidth 64) s.timermatch) := rfl
@[simp] theorem State.tick_mtvec (us : Word) : (s.tick us).mtvec = s.mtvec := rfl
@[simp] theorem State.tick_mscratch (us : Word) : (s.tick us).mscratch = s.mscratch := rfl
@[simp] theorem State.tick_mepc (us : Word) : (s.tick us).mepc = s.mepc := rfl
@[simp] theorem State.tick_mcause (us : Word) : (s.tick us).mcause = s.mcause := rfl
@[simp] theorem State.tick_mtval (us : Word) : (s.tick us).mtval = s.mtval := rfl
@[simp] theorem State.tick_cycle (us : Word) : (s.tick us).cycle = s.cycle := rfl
@[simp] theorem State.tick_timer (us : Word) : (s.tick us).timer = s.timer + us.setWidth 64 := rfl
@[simp] theorem State.tick_timermatch (us : Word) : (s.tick us).timermatch = s.timermatch := rfl
@[simp] theorem State.tick_priv (us : Word) : (s.tick us).priv = s.priv := rfl
@[simp] theorem State.tick_wfi (us : Word) : (s.tick us).wfi = if timerFires (s.timer + us.setWidth 64) s.timermatch then false else s.wfi := rfl
@[simp] theorem State.tick_resv (us : Word) : (s.tick us).resv = s.resv := rfl
@[simp] theorem State.tick_mem (us : Word) : (s.tick us).mem = s.mem := rfl
@[simp] theorem State.tick_status (us : Word) : (s.tick us).status = s.status := rfl
@[simp] theorem State.tick_call (us : Word) : (s.tick us).call = s.call := rfl
@[simp] theorem State.tick_runCycle (us : Word) : (s.tick us).runCycle = s.runCycle := rfl
@[simp] theorem State.tick_insn (us : Word) : (s.tick us).insn = s.insn := rfl
@[simp] theorem State.tick_events (us : Word) : (s.tick us).events = s.events := rfl
@[simp] theorem State.tick_calls (us : Word) : (s.tick us).calls = s.calls := rfl
@[simp] theorem State.tick_replies (us : Word) : (s.tick us).replies = s.replies := rfl
@[simp] theorem State.tick_draws (us : Word) : (s.tick us).draws = s.draws := rfl
@[simp] theorem State.tick_x (us : Word) (r : RegIx) : (s.tick us).x r = s.x r := rfl

/-! ### beginAttempt -/

@[simp] theorem State.beginAttempt_cfg (n : Nat) (w : Word) : (s.beginAttempt n w).cfg = s.cfg := rfl
@[simp] theorem State.beginAttempt_xregs (n : Nat) (w : Word) : (s.beginAttempt n w).xregs = s.xregs := rfl
@[simp] theorem State.beginAttempt_pc (n : Nat) (w : Word) : (s.beginAttempt n w).pc = s.pc := rfl
@[simp] theorem State.beginAttempt_mstatus (n : Nat) (w : Word) : (s.beginAttempt n w).mstatus = s.mstatus := rfl
@[simp] theorem State.beginAttempt_mie (n : Nat) (w : Word) : (s.beginAttempt n w).mie = s.mie := rfl
@[simp] theorem State.beginAttempt_mip (n : Nat) (w : Word) : (s.beginAttempt n w).mip = s.mip := rfl
@[simp] theorem State.beginAttempt_mtvec (n : Nat) (w : Word) : (s.beginAttempt n w).mtvec = s.mtvec := rfl
@[simp] theorem State.beginAttempt_mscratch (n : Nat) (w : Word) : (s.beginAttempt n w).mscratch = s.mscratch := rfl
@[simp] theorem State.beginAttempt_mepc (n : Nat) (w : Word) : (s.beginAttempt n w).mepc = s.mepc := rfl
@[simp] theorem State.beginAttempt_mcause (n : Nat) (w : Word) : (s.beginAttempt n w).mcause = s.mcause := rfl
@[simp] theorem State.beginAttempt_mtval (n : Nat) (w : Word) : (s.beginAttempt n w).mtval = s.mtval := rfl
@[simp] theorem State.beginAttempt_cycle (n : Nat) (w : Word) : (s.beginAttempt n w).cycle = s.cycle := rfl
@[simp] theorem State.beginAttempt_timer (n : Nat) (w : Word) : (s.beginAttempt n w).timer = s.timer := rfl
@[simp] theorem State.beginAttempt_timermatch (n : Nat) (w : Word) : (s.beginAttempt n w).timermatch = s.timermatch := rfl
@[simp] theorem State.beginAttempt_priv (n : Nat) (w : Word) : (s.beginAttempt n w).priv = s.priv := rfl
@[simp] theorem State.beginAttempt_wfi (n : Nat) (w : Word) : (s.beginAttempt n w).wfi = s.wfi := rfl
@[simp] theorem State.beginAttempt_resv (n : Nat) (w : Word) : (s.beginAttempt n w).resv = s.resv := rfl
@[simp] theorem State.beginAttempt_mem (n : Nat) (w : Word) : (s.beginAttempt n w).mem = s.mem := rfl
@[simp] theorem State.beginAttempt_status (n : Nat) (w : Word) : (s.beginAttempt n w).status = s.status := rfl
@[simp] theorem State.beginAttempt_call (n : Nat) (w : Word) : (s.beginAttempt n w).call = some n := rfl
@[simp] theorem State.beginAttempt_runCycle (n : Nat) (w : Word) : (s.beginAttempt n w).runCycle = s.runCycle + 1#32 := rfl
@[simp] theorem State.beginAttempt_insn (n : Nat) (w : Word) : (s.beginAttempt n w).insn = w := rfl
@[simp] theorem State.beginAttempt_events (n : Nat) (w : Word) : (s.beginAttempt n w).events = s.events := rfl
@[simp] theorem State.beginAttempt_calls (n : Nat) (w : Word) : (s.beginAttempt n w).calls = s.calls := rfl
@[simp] theorem State.beginAttempt_replies (n : Nat) (w : Word) : (s.beginAttempt n w).replies = s.replies := rfl
@[simp] theorem State.beginAttempt_draws (n : Nat) (w : Word) : (s.beginAttempt n w).draws = s.draws := rfl
@[simp] theorem State.beginAttempt_x (n : Nat) (w : Word) (r : RegIx) : (s.beginAttempt n w).x r = s.x r := rfl

/-! ### Registers (R31) -/

/-- x0 reads as zero (R31). -/
@[simp] theorem State.x_zero : s.x 0#5 = 0#32 := by simp [State.x]

/-- A register reads what was last written to it; a write to x0 is discarded (R31). -/
@[simp] theorem State.setX_x (r : RegIx) (v : Word) (q : RegIx) :
    (s.setX r v).x q = if q = r ∧ q ≠ 0#5 then v else s.x q := by
  by_cases hq : q = 0#5
  · simp [State.x, hq]
  by_cases hr : r = 0#5
  · subst hr
    simp [State.x, State.setX, hq]
  have bound : ∀ a : RegIx, a ≠ 0#5 → 0 < a.toNat := fun a h => by
    rcases Nat.eq_zero_or_pos a.toNat with h0 | h0
    · exact absurd (BitVec.eq_of_toNat_eq (by simpa using h0)) h
    · exact h0
  have hq0 := bound q hq
  have hr0 := bound r hr
  have hrl : r.toNat < 32 := r.isLt
  simp only [State.x, State.setX, hq, hr, if_false, ne_eq, not_false_eq_true, and_true]
  rw [Vector.getElem?_setIfInBounds]
  by_cases h : q = r
  · subst h
    have : q.toNat - 1 < 31 := by omega
    simp [this]
  · have hne : r.toNat - 1 ≠ q.toNat - 1 := fun e => h (BitVec.eq_of_toNat_eq (by omega))
    simp [h, hne]

/-- The register a retiring instruction writes (R11, R31). -/
@[simp] theorem State.retire_x (r : RegIx) (v : Word) (q : RegIx) :
    (s.retire r v).x q = if q = r ∧ q ≠ 0#5 then v else s.x q :=
  State.setX_x s r v q

/-- A write to x0 changes nothing (R31). -/
@[simp] theorem State.setX_zero (v : Word) : s.setX 0#5 v = s := by simp [State.setX]

end Sys2Proof.Machine
end

