-- ==== Sys2Proof/Laws/Ops.lean ====
section
/-!
SUPPORT. What each shared operation can do, said once: the arbiter, loads, stores and atomics, raising an exception, CSR
access, and the start of a step call. Later proofs cite these and unfold nothing.
-/

namespace Sys2Proof.Machine

variable (s : State)

/-! ### The arbiter (R75) -/

/-- An access the arbiter gives to RAM is aligned, lies whole within RAM, and its offset is the address less the base. -/
theorem classify_ram {c : Config} {a : Word} {w : Width} {off : Word} (h : classify c a w = .ram off) :
    off = a - c.ramBase ∧ a.toNat % widthBytes w = 0 ∧ (a - c.ramBase).toNat + widthBytes w ≤ c.ramSize := by
  simp only [classify] at h
  split at h
  · cases h
  · next h0 =>
    split at h
    · next h1 => cases h; exact ⟨rfl, by omega, h1.1⟩
    · split at h <;> cases h

/-- A misaligned access is exactly one whose address is no multiple of its width (R76). -/
theorem classify_misaligned_iff {c : Config} {a : Word} {w : Width} :
    classify c a w = .misaligned ↔ a.toNat % widthBytes w ≠ 0 := by
  simp only [classify]
  constructor
  · intro h
    by_contra h0
    rw [if_neg (not_not.2 h0)] at h
    split at h
    · cases h
    · split at h <;> cases h
  · intro h; rw [if_pos h]

/-- Under R7's constraints an address the arbiter gives to RAM is the base plus its offset, so its bytes are bytes of RAM. -/
theorem classify_ram_inRam {c : Config} {a : Word} {w : Width} {off : Word} (hc : c.ok = true)
    (h : classify c a w = .ram off) (k : Nat) (hk : k < widthBytes w) : inRam c (a.toNat + k) = true := by
  obtain ⟨-, -, h2⟩ := classify_ram h
  simp only [Config.ok, Bool.and_eq_true, decide_eq_true_eq, beq_iff_eq] at hc
  have ha := a.isLt
  have hb := c.ramBase.isLt
  rw [BitVec.toNat_sub] at h2
  simp only [inRam, Bool.and_eq_true, decide_eq_true_eq]
  omega

/-! ### Raising an exception (R310, R316, R320) -/

/-- Without the fault policy a raised exception traps. -/
theorem raise_of_trap (e : Exc) (v : Word) (h : s.cfg.failOnAllFaults = false) : s.raise e v = s.trapHere e v := by
  simp [State.raise, h]

/-- Under the fault policy a raised exception aborts the run. -/
theorem raise_of_abort (e : Exc) (v : Word) (h : s.cfg.failOnAllFaults = true) : s.raise e v = s.abort e := by
  simp [State.raise, h]

/-- A raised exception traps or aborts, and nothing else. -/
theorem raise_cases (e : Exc) (v : Word) : s.raise e v = s.trapHere e v ∨ s.raise e v = s.abort e := by
  unfold State.raise; split <;> simp

@[simp] theorem raise_cfg (e : Exc) (v : Word) : (s.raise e v).cfg = s.cfg := by
  rcases raise_cases s e v with h | h <;> simp [h]

@[simp] theorem raise_mem (e : Exc) (v : Word) : (s.raise e v).mem = s.mem := by
  rcases raise_cases s e v with h | h <;> simp [h]

@[simp] theorem raise_x (e : Exc) (v : Word) (r : RegIx) : (s.raise e v).x r = s.x r := by
  rcases raise_cases s e v with h | h <;> simp [h]

@[simp] theorem raise_wfi (e : Exc) (v : Word) : (s.raise e v).wfi = s.wfi := by
  rcases raise_cases s e v with h | h <;> simp [h]

@[simp] theorem raise_resv (e : Exc) (v : Word) : (s.raise e v).resv = s.resv := by
  rcases raise_cases s e v with h | h <;> simp [h]

@[simp] theorem raise_mip (e : Exc) (v : Word) : (s.raise e v).mip = s.mip := by
  rcases raise_cases s e v with h | h <;> simp [h]

/-- An exception ends the step call (R305). -/
@[simp] theorem raise_call (e : Exc) (v : Word) : (s.raise e v).call = none := by
  rcases raise_cases s e v with h | h <;> simp [h]

/-- Everything the trap of an exception does (R316, R320, R305, R306). -/
theorem trapHere_eq (e : Exc) (v : Word) :
    s.trapHere e v = { s with
      mcause := excCode e
      mtval := v
      mepc := s.pc
      mstatus := trapMstatus s.mstatus s.priv
      pc := s.mtvec
      priv := 3#2
      cycle := committed s.cycle s.runCycle
      call := none
      events := s.events ++ [.exception s.insn e] ++ [.returned .normal] } := rfl

/-- Everything an abort does (R320). -/
theorem abort_eq (e : Exc) :
    s.abort e = { s with status := .aborted e, call := none, events := s.events ++ [.returned (.aborted e)] } := rfl

/-! ### The hooks: everything each can change (R85, R340) -/

theorem mmioHook_eq (e : HostEvent) :
    s.mmioHook e = { s with
      timer := s.reply.timer.getD s.timer
      timermatch := s.reply.timermatch.getD s.timermatch
      events := s.events ++ [e]
      replies := s.replies.tail
      draws := if s.replies.isEmpty then s.draws + 1 else s.draws } := rfl

theorem csrHook_eq (e : HostEvent) :
    s.csrHook e = { s with
      mem := hostWrites s.cfg s.reply.ram s.mem
      events := s.events ++ [e]
      replies := s.replies.tail
      draws := if s.replies.isEmpty then s.draws + 1 else s.draws } := rfl

/-- The answer of the next hook call is the one after this call's. -/
theorem csrHook_reply (e : HostEvent) : (s.csrHook e).reply = s.popReply.reply := rfl

/-! ### Loads, stores, atomics: everything each can answer -/

/-- What a load can answer (R80). -/
theorem load_cases (w : Width) (sg : Bool) (rd : RegIx) (a : Word) :
    (classify s.cfg a w = .misaligned ∧ s.load w sg rd a = .next (s.raise .loadAddressMisaligned a))
      ∨ (∃ off, classify s.cfg a w = .ram off ∧ s.load w sg rd a = .next (s.retire rd (ramLoad s.mem a w sg)))
      ∨ (classify s.cfg a w = .mmio
          ∧ s.load w sg rd a = .next ((s.mmioHook (.mmioLoad a)).retire rd s.reply.value))
      ∨ (classify s.cfg a w = .invalid ∧ s.load w sg rd a = .next (s.raise .loadAccessFault a)) := by
  unfold State.load
  cases h : classify s.cfg a w <;> simp

/-- What a store can answer (R81). -/
theorem store_cases (w : Width) (a v : Word) :
    (classify s.cfg a w = .misaligned ∧ s.store w a v = .next (s.raise .storeAddressMisaligned a))
      ∨ (∃ off, classify s.cfg a w = .ram off ∧ s.store w a v = .next ({ s with mem := ramStore s.mem a w v }.advance))
      ∨ (classify s.cfg a w = .mmio ∧ s.store w a v = .next (s.mmioStore a v))
      ∨ (classify s.cfg a w = .invalid ∧ s.store w a v = .next (s.raise .storeAccessFault a)) := by
  unfold State.store
  cases h : classify s.cfg a w <;> simp

/-- What an MMIO store comes to (R83). -/
theorem mmioStore_cases (a v : Word) :
    (s.reply.value = 0#32 ∧ s.mmioStore a v = (s.mmioHook (.mmioStore a v)).advance)
      ∨ (s.reply.value ≠ 0#32
          ∧ s.mmioStore a v = ((s.mmioHook (.mmioStore a v)).advance).hostStop s.reply.value) := by
  unfold State.mmioStore
  by_cases h : s.reply.value = 0#32 <;> simp [h]

/-- What an atomic can answer (R250). -/
theorem atomic_cases (a : Word) (f : Word → State) :
    (classify s.cfg a .word = .misaligned ∧ s.atomic a f = .next (s.raise .storeAddressMisaligned a))
      ∨ (∃ off, classify s.cfg a .word = .ram off ∧ s.atomic a f = .next (f off))
      ∨ ((classify s.cfg a .word = .mmio ∨ classify s.cfg a .word = .invalid)
          ∧ s.atomic a f = .next (s.raise .storeAccessFault a)) := by
  unfold State.atomic
  cases h : classify s.cfg a .word <;> simp

/-- A RAM store keeps the canonical form (R74). -/
theorem ramStore_keeps_wf (m : Memory) (a : Word) (w : Width) (v : Word) (h : memoryWf m = true) :
    memoryWf (ramStore m a w v) = true := by
  cases w
  · exact writeByte_keeps_wf _ _ _ h
  · exact writeLow16_keeps_wf _ _ _ h
  · exact writeWord_keeps_wf _ _ _ h

/-- A RAM store lists at most the bytes it stores beside what was listed. -/
theorem mem_ramStore (m : Memory) (a : Word) (w : Width) (v : Word) (c : Host.Cell) (h : c ∈ ramStore m a w v) :
    (∃ k, k < widthBytes w ∧ c.1 = a.toNat + k) ∨ c ∈ m := by
  cases w
  · rcases mem_writeByte _ _ _ _ h with h | h
    · exact .inl ⟨0, by decide, by omega⟩
    · exact .inr h
  · rcases mem_writeLow16 _ _ _ _ h with h | h
    · exact .inl ⟨c.1 - a.toNat, by simp only [widthBytes]; omega, by omega⟩
    · exact .inr h
  · rcases mem_writeWord _ _ _ _ h with h | h
    · exact .inl ⟨c.1 - a.toNat, by simp only [widthBytes]; omega, by omega⟩
    · exact .inr h

/-! ### CSR access (R276) -/

/-- The core's CSR for a number, if any, settles what a read gives and changes. -/
theorem csrRead_of_core {n : CsrIx} {k : CoreCsr} (h : coreCsr? n = some k) :
    s.csrRead n = s ∧ s.csrValue n = s.getCsr k := by
  simp [State.csrRead, State.csrValue, h]

theorem csrWrite_of_core {n : CsrIx} {k : CoreCsr} (h : coreCsr? n = some k) (v : Word) :
    s.csrWrite n v = s.setCsr k v := by
  simp [State.csrWrite, h]

theorem csrRead_of_cycle : s.csrRead csrCycle = s ∧ s.csrValue csrCycle = s.runCycle := ⟨rfl, rfl⟩

theorem csrRead_of_host {n : CsrIx} (h : coreCsr? n = none) (hc : n ≠ csrCycle) :
    s.csrRead n = s.csrHook (.csrRead n) ∧ s.csrValue n = s.reply.value := by
  simp [State.csrRead, State.csrValue, h, hc]

theorem csrWrite_of_host {n : CsrIx} (h : coreCsr? n = none) (v : Word) :
    s.csrWrite n v = s.csrHook (.csrWrite n v) := by
  simp [State.csrWrite, h]

/-- What writing a CSR leaves alone. -/
theorem csrWrite_keeps (n : CsrIx) (v : Word) :
    (s.csrWrite n v).cfg = s.cfg ∧ (s.csrWrite n v).xregs = s.xregs ∧ (s.csrWrite n v).pc = s.pc
      ∧ (s.csrWrite n v).priv = s.priv ∧ (s.csrWrite n v).wfi = s.wfi ∧ (s.csrWrite n v).resv = s.resv
      ∧ (s.csrWrite n v).status = s.status ∧ (s.csrWrite n v).call = s.call := by
  unfold State.csrWrite
  cases coreCsr? n with
  | none => simp
  | some k => cases k <;> simp [State.setCsr]

/-- What reading a CSR leaves alone. -/
theorem csrRead_keeps (n : CsrIx) :
    (s.csrRead n).cfg = s.cfg ∧ (s.csrRead n).xregs = s.xregs ∧ (s.csrRead n).pc = s.pc
      ∧ (s.csrRead n).priv = s.priv ∧ (s.csrRead n).wfi = s.wfi ∧ (s.csrRead n).resv = s.resv
      ∧ (s.csrRead n).status = s.status ∧ (s.csrRead n).call = s.call := by
  unfold State.csrRead
  cases coreCsr? n with
  | none => by_cases h : n = csrCycle <;> simp [h]
  | some k => simp

/-- RAM after a CSR read is what the hook left, if there was one. -/
theorem csrRead_mem (n : CsrIx) : (s.csrRead n).mem = s.mem ∨ (s.csrRead n).mem = hostWrites s.cfg s.reply.ram s.mem := by
  unfold State.csrRead
  cases coreCsr? n with
  | none => by_cases h : n = csrCycle <;> simp [h]
  | some k => simp

/-- RAM after a CSR write is what the hook left, if there was one. -/
theorem csrWrite_mem (n : CsrIx) (v : Word) :
    (s.csrWrite n v).mem = s.mem ∨ (s.csrWrite n v).mem = hostWrites s.cfg s.reply.ram s.mem := by
  unfold State.csrWrite
  cases coreCsr? n with
  | none => simp
  | some k => cases k <;> simp [State.setCsr]

/-! ### The start of a step call (R300 to R304) -/

/-- What the start of a step call comes to: the WFI gate, the timer interrupt, or the loop. -/
theorem stepCall_cases (us : Word) (n : Nat) :
    ((s.tick us).wfi = true ∧ s.stepCall us n = (s.tick us).returnCall .sleeping)
      ∨ ((s.tick us).wfi = false ∧ (s.tick us).interruptTaken = true
          ∧ s.stepCall us n
            = ((s.tick us).startCycle.takeTrap timerInterruptCode (s.tick us).pc 0#32).returnNormal)
      ∨ ((s.tick us).wfi = false ∧ (s.tick us).interruptTaken = false
          ∧ s.stepCall us n = { (s.tick us).startCycle with call := some n }) := by
  unfold State.stepCall
  generalize s.tick us = t
  cases hw : t.wfi with
  | true => exact .inl ⟨rfl, if_pos hw⟩
  | false =>
    have h : ¬ t.wfi = true := by rw [hw]; decide
    cases hi : t.interruptTaken with
    | true => exact .inr (.inl ⟨rfl, rfl, (if_neg h).trans (if_pos hi)⟩)
    | false => exact .inr (.inr ⟨rfl, rfl, (if_neg h).trans (if_neg (by rw [hi]; decide))⟩)

/-- A host edit changes neither the configuration, nor the run status, nor the call in progress. -/
@[simp] theorem edit_keeps (e : HostEdit) :
    (s.edit e).cfg = s.cfg ∧ (s.edit e).status = s.status ∧ (s.edit e).call = s.call := by
  cases e with
  | setCsr k v => cases k <;> simp [State.edit, State.setCsr]
  | _ => simp [State.edit]

theorem edits_keep (l : List HostEdit) :
    (l.foldl State.edit s).cfg = s.cfg ∧ (l.foldl State.edit s).status = s.status
      ∧ (l.foldl State.edit s).call = s.call := by
  induction l generalizing s with
  | nil => simp
  | cons e t ih =>
    obtain ⟨h1, h2, h3⟩ := ih (s.edit e)
    obtain ⟨g1, g2, g3⟩ := edit_keeps s e
    exact ⟨h1.trans g1, h2.trans g2, h3.trans g3⟩

end Sys2Proof.Machine
end

