-- ==== Sys2Proof/Laws/PerInstr.lean ====
section
/-!
SUPPORT. The statement made per instruction: its word, whatever its operands, is one its own row of spec/opcode_table.json
matches (spec/30_encoding.md R110, R131), with one lemma per constructor; and what masking does to a word of each format.
-/

namespace Sys2Proof

/-! ### Masking a word of each format (R112) -/

theorem and_encI (m0 : BitVec 12) (m3 : BitVec 3) (mo : BitVec 7) (imm : BitVec 12) (rs1 : RegIx) (f : BitVec 3)
    (rd : RegIx) (op : BitVec 7) :
    encI imm rs1 f rd op &&& (m0 ++ 0#5 ++ m3 ++ 0#5 ++ mo)
      = (imm &&& m0) ++ 0#5 ++ (f &&& m3) ++ 0#5 ++ (op &&& mo) := by
  have h : (imm ++ rs1 ++ f ++ rd ++ op : BitVec (12 + 5 + 3 + 5 + 7))
      &&& (m0 ++ 0#5 ++ m3 ++ 0#5 ++ mo : BitVec (12 + 5 + 3 + 5 + 7))
      = (imm &&& m0) ++ 0#5 ++ (f &&& m3) ++ 0#5 ++ (op &&& mo) := by
    simp only [BitVec.and_append, BitVec.and_zero]
  exact h

theorem and_encR (m7 : BitVec 7) (m3 : BitVec 3) (mo f7 : BitVec 7) (rs2 rs1 : RegIx) (f : BitVec 3) (rd : RegIx)
    (op : BitVec 7) :
    encR f7 rs2 rs1 f rd op &&& (m7 ++ 0#5 ++ 0#5 ++ m3 ++ 0#5 ++ mo)
      = (f7 &&& m7) ++ 0#5 ++ 0#5 ++ (f &&& m3) ++ 0#5 ++ (op &&& mo) := by
  have h : (f7 ++ rs2 ++ rs1 ++ f ++ rd ++ op : BitVec (7 + 5 + 5 + 3 + 5 + 7))
      &&& (m7 ++ 0#5 ++ 0#5 ++ m3 ++ 0#5 ++ mo : BitVec (7 + 5 + 5 + 3 + 5 + 7))
      = (f7 &&& m7) ++ 0#5 ++ 0#5 ++ (f &&& m3) ++ 0#5 ++ (op &&& mo) := by
    simp only [BitVec.and_append, BitVec.and_zero]
  exact h

theorem and_encS (imm : Word) (rs2 rs1 : RegIx) (f : BitVec 3) :
    encS imm rs2 rs1 f &&& 0x0000707f#32 = 0#7 ++ 0#5 ++ 0#5 ++ f ++ 0#5 ++ 0x23#7 :=
  (and_encR 0#7 7#3 0x7f#7 _ rs2 rs1 f _ 0x23#7).trans (by simp only [BitVec.and_zero]; congr 3; exact BitVec.and_allOnes)

theorem and_encB (imm : Word) (rs2 rs1 : RegIx) (f : BitVec 3) :
    encB imm rs2 rs1 f &&& 0x0000707f#32 = 0#7 ++ 0#5 ++ 0#5 ++ f ++ 0#5 ++ 0x63#7 := by
  have h : (imm.extractLsb' 12 1 ++ imm.extractLsb' 5 6 ++ rs2 ++ rs1 ++ f ++ imm.extractLsb' 1 4
        ++ imm.extractLsb' 11 1 ++ 0x63#7 : BitVec (1 + 6 + 5 + 5 + 3 + 4 + 1 + 7))
      &&& (0#1 ++ 0#6 ++ 0#5 ++ 0#5 ++ 7#3 ++ 0#4 ++ 0#1 ++ 0x7f#7 : BitVec (1 + 6 + 5 + 5 + 3 + 4 + 1 + 7))
      = 0#1 ++ 0#6 ++ 0#5 ++ 0#5 ++ (f &&& 7#3) ++ 0#4 ++ 0#1 ++ 0x63#7 := by
    simp only [BitVec.and_append, BitVec.and_zero]
    rfl
  rw [show f &&& 7#3 = f from BitVec.and_allOnes] at h
  refine h.trans ?_
  clear h; revert f
  decide

theorem and_encU (imm : Word) (rd : RegIx) (op : BitVec 7) :
    encU imm rd op &&& 0x0000007f#32 = 0#20 ++ 0#5 ++ op := by
  have h : (imm.extractLsb' 12 20 ++ rd ++ op : BitVec (20 + 5 + 7)) &&& (0#20 ++ 0#5 ++ 0x7f#7 : BitVec (20 + 5 + 7))
      = 0#20 ++ 0#5 ++ (op &&& 0x7f#7) := by
    simp only [BitVec.and_append, BitVec.and_zero]
  rw [show op &&& 0x7f#7 = op from BitVec.and_allOnes] at h
  exact h

theorem and_encJ (imm : Word) (rd : RegIx) : encJ imm rd &&& 0x0000007f#32 = 0x0000006f#32 := by
  have h : (imm.extractLsb' 20 1 ++ imm.extractLsb' 1 10 ++ imm.extractLsb' 11 1 ++ imm.extractLsb' 12 8 ++ rd
        ++ 0x6f#7 : BitVec (1 + 10 + 1 + 8 + 5 + 7))
      &&& (0#1 ++ 0#10 ++ 0#1 ++ 0#8 ++ 0#5 ++ 0x7f#7 : BitVec (1 + 10 + 1 + 8 + 5 + 7))
      = 0#1 ++ 0#10 ++ 0#1 ++ 0#8 ++ 0#5 ++ (0x6f#7 &&& 0x7f#7) := by
    simp only [BitVec.and_append, BitVec.and_zero]
  exact h

theorem and_encAmo (f5 : BitVec 5) (aq rl : Bool) (rs2 rs1 rd : RegIx) :
    encAmo f5 aq rl rs2 rs1 rd &&& 0xf800007f#32 = f5 ++ 0#20 ++ 0x2f#7 := by
  have h : (f5 ++ BitVec.ofBool aq ++ BitVec.ofBool rl ++ rs2 ++ rs1 ++ 2#3 ++ rd ++ 0x2f#7
        : BitVec (5 + 1 + 1 + 5 + 5 + 3 + 5 + 7))
      &&& (0x1f#5 ++ 0#1 ++ 0#1 ++ 0#5 ++ 0#5 ++ 0#3 ++ 0#5 ++ 0x7f#7 : BitVec (5 + 1 + 1 + 5 + 5 + 3 + 5 + 7))
      = (f5 &&& 0x1f#5) ++ 0#1 ++ 0#1 ++ 0#5 ++ 0#5 ++ 0#3 ++ 0#5 ++ (0x2f#7 &&& 0x7f#7) := by
    simp only [BitVec.and_append, BitVec.and_zero]
  rw [show f5 &&& 0x1f#5 = f5 from BitVec.and_allOnes] at h
  refine h.trans ?_
  clear h; revert f5
  decide

/-! ### One lemma per constructor -/

/-- The instruction's word, whatever its operands, is one its own row of spec/opcode_table.json matches. -/
def Laws.RowEncoding.Statement (i : Instr) : Prop :=
  ∃ r ∈ opcodeTable, r.mnemonic = i.mnemonic ∧ rowMatches r (encode i) = true

theorem Laws.RowEncoding.of_row {i : Instr} (n : Nat) (r : OpcodeRow) (hr : opcodeTable[n]? = some r)
    (hm : r.mnemonic = i.mnemonic) (h : encode i &&& r.mask = r.matchBits) : Laws.RowEncoding.Statement i :=
  ⟨r, List.mem_of_getElem? hr, hm, by rw [rowMatches, h]; exact beq_self_eq_true _⟩

theorem Laws.RowEncoding.lui (rd : RegIx) (imm : Word) :
    Laws.RowEncoding.Statement (.lui rd imm) :=
  Laws.RowEncoding.of_row 0 ⟨"LUI", 0x00000037#32, 0x0000007f#32⟩ rfl rfl (and_encU _ _ _)

theorem Laws.RowEncoding.auipc (rd : RegIx) (imm : Word) :
    Laws.RowEncoding.Statement (.auipc rd imm) :=
  Laws.RowEncoding.of_row 1 ⟨"AUIPC", 0x00000017#32, 0x0000007f#32⟩ rfl rfl (and_encU _ _ _)

theorem Laws.RowEncoding.lb (rd rs1 : RegIx) (imm : Word) :
    Laws.RowEncoding.Statement (.lb rd rs1 imm) :=
  Laws.RowEncoding.of_row 2 ⟨"LB", 0x00000003#32, 0x0000707f#32⟩ rfl rfl ((and_encI 0#12 7#3 0x7f#7 _ _ _ _ _).trans (by simp))

theorem Laws.RowEncoding.lh (rd rs1 : RegIx) (imm : Word) :
    Laws.RowEncoding.Statement (.lh rd rs1 imm) :=
  Laws.RowEncoding.of_row 3 ⟨"LH", 0x00001003#32, 0x0000707f#32⟩ rfl rfl ((and_encI 0#12 7#3 0x7f#7 _ _ _ _ _).trans (by simp))

theorem Laws.RowEncoding.lw (rd rs1 : RegIx) (imm : Word) :
    Laws.RowEncoding.Statement (.lw rd rs1 imm) :=
  Laws.RowEncoding.of_row 4 ⟨"LW", 0x00002003#32, 0x0000707f#32⟩ rfl rfl ((and_encI 0#12 7#3 0x7f#7 _ _ _ _ _).trans (by simp))

theorem Laws.RowEncoding.lbu (rd rs1 : RegIx) (imm : Word) :
    Laws.RowEncoding.Statement (.lbu rd rs1 imm) :=
  Laws.RowEncoding.of_row 5 ⟨"LBU", 0x00004003#32, 0x0000707f#32⟩ rfl rfl ((and_encI 0#12 7#3 0x7f#7 _ _ _ _ _).trans (by simp))

theorem Laws.RowEncoding.lhu (rd rs1 : RegIx) (imm : Word) :
    Laws.RowEncoding.Statement (.lhu rd rs1 imm) :=
  Laws.RowEncoding.of_row 6 ⟨"LHU", 0x00005003#32, 0x0000707f#32⟩ rfl rfl ((and_encI 0#12 7#3 0x7f#7 _ _ _ _ _).trans (by simp))

theorem Laws.RowEncoding.sb (rs1 rs2 : RegIx) (imm : Word) :
    Laws.RowEncoding.Statement (.sb rs1 rs2 imm) :=
  Laws.RowEncoding.of_row 7 ⟨"SB", 0x00000023#32, 0x0000707f#32⟩ rfl rfl (and_encS _ _ _ _)

theorem Laws.RowEncoding.sh (rs1 rs2 : RegIx) (imm : Word) :
    Laws.RowEncoding.Statement (.sh rs1 rs2 imm) :=
  Laws.RowEncoding.of_row 8 ⟨"SH", 0x00001023#32, 0x0000707f#32⟩ rfl rfl (and_encS _ _ _ _)

theorem Laws.RowEncoding.sw (rs1 rs2 : RegIx) (imm : Word) :
    Laws.RowEncoding.Statement (.sw rs1 rs2 imm) :=
  Laws.RowEncoding.of_row 9 ⟨"SW", 0x00002023#32, 0x0000707f#32⟩ rfl rfl (and_encS _ _ _ _)

theorem Laws.RowEncoding.addi (rd rs1 : RegIx) (imm : Word) :
    Laws.RowEncoding.Statement (.addi rd rs1 imm) :=
  Laws.RowEncoding.of_row 10 ⟨"ADDI", 0x00000013#32, 0x0000707f#32⟩ rfl rfl ((and_encI 0#12 7#3 0x7f#7 _ _ _ _ _).trans (by simp))

theorem Laws.RowEncoding.slti (rd rs1 : RegIx) (imm : Word) :
    Laws.RowEncoding.Statement (.slti rd rs1 imm) :=
  Laws.RowEncoding.of_row 11 ⟨"SLTI", 0x00002013#32, 0x0000707f#32⟩ rfl rfl ((and_encI 0#12 7#3 0x7f#7 _ _ _ _ _).trans (by simp))

theorem Laws.RowEncoding.sltiu (rd rs1 : RegIx) (imm : Word) :
    Laws.RowEncoding.Statement (.sltiu rd rs1 imm) :=
  Laws.RowEncoding.of_row 12 ⟨"SLTIU", 0x00003013#32, 0x0000707f#32⟩ rfl rfl ((and_encI 0#12 7#3 0x7f#7 _ _ _ _ _).trans (by simp))

theorem Laws.RowEncoding.xori (rd rs1 : RegIx) (imm : Word) :
    Laws.RowEncoding.Statement (.xori rd rs1 imm) :=
  Laws.RowEncoding.of_row 13 ⟨"XORI", 0x00004013#32, 0x0000707f#32⟩ rfl rfl ((and_encI 0#12 7#3 0x7f#7 _ _ _ _ _).trans (by simp))

theorem Laws.RowEncoding.ori (rd rs1 : RegIx) (imm : Word) :
    Laws.RowEncoding.Statement (.ori rd rs1 imm) :=
  Laws.RowEncoding.of_row 14 ⟨"ORI", 0x00006013#32, 0x0000707f#32⟩ rfl rfl ((and_encI 0#12 7#3 0x7f#7 _ _ _ _ _).trans (by simp))

theorem Laws.RowEncoding.andi (rd rs1 : RegIx) (imm : Word) :
    Laws.RowEncoding.Statement (.andi rd rs1 imm) :=
  Laws.RowEncoding.of_row 15 ⟨"ANDI", 0x00007013#32, 0x0000707f#32⟩ rfl rfl ((and_encI 0#12 7#3 0x7f#7 _ _ _ _ _).trans (by simp))

theorem Laws.RowEncoding.slli (rd rs1 : RegIx) (shamt : BitVec 5) :
    Laws.RowEncoding.Statement (.slli rd rs1 shamt) :=
  Laws.RowEncoding.of_row 16 ⟨"SLLI", 0x00001013#32, 0x0000707f#32⟩ rfl rfl ((and_encR 0x00#7 7#3 0x7f#7 _ _ _ _ _ _).trans (by simp))

theorem Laws.RowEncoding.srli (rd rs1 : RegIx) (shamt : BitVec 5) :
    Laws.RowEncoding.Statement (.srli rd rs1 shamt) :=
  Laws.RowEncoding.of_row 17 ⟨"SRLI", 0x00005013#32, 0x4000707f#32⟩ rfl rfl ((and_encR 0x20#7 7#3 0x7f#7 _ _ _ _ _ _).trans (by simp))

theorem Laws.RowEncoding.srai (rd rs1 : RegIx) (shamt : BitVec 5) :
    Laws.RowEncoding.Statement (.srai rd rs1 shamt) :=
  Laws.RowEncoding.of_row 18 ⟨"SRAI", 0x40005013#32, 0x4000707f#32⟩ rfl rfl ((and_encR 0x20#7 7#3 0x7f#7 _ _ _ _ _ _).trans (by simp))

theorem Laws.RowEncoding.add (rd rs1 rs2 : RegIx) :
    Laws.RowEncoding.Statement (.add rd rs1 rs2) :=
  Laws.RowEncoding.of_row 19 ⟨"ADD", 0x00000033#32, 0x4200707f#32⟩ rfl rfl ((and_encR 0x21#7 7#3 0x7f#7 _ _ _ _ _ _).trans (by simp))

theorem Laws.RowEncoding.sub (rd rs1 rs2 : RegIx) :
    Laws.RowEncoding.Statement (.sub rd rs1 rs2) :=
  Laws.RowEncoding.of_row 20 ⟨"SUB", 0x40000033#32, 0x4200707f#32⟩ rfl rfl ((and_encR 0x21#7 7#3 0x7f#7 _ _ _ _ _ _).trans (by simp))

theorem Laws.RowEncoding.sll (rd rs1 rs2 : RegIx) :
    Laws.RowEncoding.Statement (.sll rd rs1 rs2) :=
  Laws.RowEncoding.of_row 21 ⟨"SLL", 0x00001033#32, 0x0200707f#32⟩ rfl rfl ((and_encR 0x01#7 7#3 0x7f#7 _ _ _ _ _ _).trans (by simp))

theorem Laws.RowEncoding.slt (rd rs1 rs2 : RegIx) :
    Laws.RowEncoding.Statement (.slt rd rs1 rs2) :=
  Laws.RowEncoding.of_row 22 ⟨"SLT", 0x00002033#32, 0x0200707f#32⟩ rfl rfl ((and_encR 0x01#7 7#3 0x7f#7 _ _ _ _ _ _).trans (by simp))

theorem Laws.RowEncoding.sltu (rd rs1 rs2 : RegIx) :
    Laws.RowEncoding.Statement (.sltu rd rs1 rs2) :=
  Laws.RowEncoding.of_row 23 ⟨"SLTU", 0x00003033#32, 0x0200707f#32⟩ rfl rfl ((and_encR 0x01#7 7#3 0x7f#7 _ _ _ _ _ _).trans (by simp))

theorem Laws.RowEncoding.xor (rd rs1 rs2 : RegIx) :
    Laws.RowEncoding.Statement (.xor rd rs1 rs2) :=
  Laws.RowEncoding.of_row 24 ⟨"XOR", 0x00004033#32, 0x0200707f#32⟩ rfl rfl ((and_encR 0x01#7 7#3 0x7f#7 _ _ _ _ _ _).trans (by simp))

theorem Laws.RowEncoding.or (rd rs1 rs2 : RegIx) :
    Laws.RowEncoding.Statement (.or rd rs1 rs2) :=
  Laws.RowEncoding.of_row 25 ⟨"OR", 0x00006033#32, 0x0200707f#32⟩ rfl rfl ((and_encR 0x01#7 7#3 0x7f#7 _ _ _ _ _ _).trans (by simp))

theorem Laws.RowEncoding.and (rd rs1 rs2 : RegIx) :
    Laws.RowEncoding.Statement (.and rd rs1 rs2) :=
  Laws.RowEncoding.of_row 26 ⟨"AND", 0x00007033#32, 0x0200707f#32⟩ rfl rfl ((and_encR 0x01#7 7#3 0x7f#7 _ _ _ _ _ _).trans (by simp))

theorem Laws.RowEncoding.srl (rd rs1 rs2 : RegIx) :
    Laws.RowEncoding.Statement (.srl rd rs1 rs2) :=
  Laws.RowEncoding.of_row 27 ⟨"SRL", 0x00005033#32, 0x4200707f#32⟩ rfl rfl ((and_encR 0x21#7 7#3 0x7f#7 _ _ _ _ _ _).trans (by simp))

theorem Laws.RowEncoding.sra (rd rs1 rs2 : RegIx) :
    Laws.RowEncoding.Statement (.sra rd rs1 rs2) :=
  Laws.RowEncoding.of_row 28 ⟨"SRA", 0x40005033#32, 0x4200707f#32⟩ rfl rfl ((and_encR 0x21#7 7#3 0x7f#7 _ _ _ _ _ _).trans (by simp))

theorem Laws.RowEncoding.mul (rd rs1 rs2 : RegIx) :
    Laws.RowEncoding.Statement (.mul rd rs1 rs2) :=
  Laws.RowEncoding.of_row 29 ⟨"MUL", 0x02000033#32, 0x0200707f#32⟩ rfl rfl ((and_encR 0x01#7 7#3 0x7f#7 _ _ _ _ _ _).trans (by simp))

theorem Laws.RowEncoding.mulh (rd rs1 rs2 : RegIx) :
    Laws.RowEncoding.Statement (.mulh rd rs1 rs2) :=
  Laws.RowEncoding.of_row 30 ⟨"MULH", 0x02001033#32, 0x0200707f#32⟩ rfl rfl ((and_encR 0x01#7 7#3 0x7f#7 _ _ _ _ _ _).trans (by simp))

theorem Laws.RowEncoding.mulhsu (rd rs1 rs2 : RegIx) :
    Laws.RowEncoding.Statement (.mulhsu rd rs1 rs2) :=
  Laws.RowEncoding.of_row 31 ⟨"MULHSU", 0x02002033#32, 0x0200707f#32⟩ rfl rfl ((and_encR 0x01#7 7#3 0x7f#7 _ _ _ _ _ _).trans (by simp))

theorem Laws.RowEncoding.mulhu (rd rs1 rs2 : RegIx) :
    Laws.RowEncoding.Statement (.mulhu rd rs1 rs2) :=
  Laws.RowEncoding.of_row 32 ⟨"MULHU", 0x02003033#32, 0x0200707f#32⟩ rfl rfl ((and_encR 0x01#7 7#3 0x7f#7 _ _ _ _ _ _).trans (by simp))

theorem Laws.RowEncoding.div (rd rs1 rs2 : RegIx) :
    Laws.RowEncoding.Statement (.div rd rs1 rs2) :=
  Laws.RowEncoding.of_row 33 ⟨"DIV", 0x02004033#32, 0x0200707f#32⟩ rfl rfl ((and_encR 0x01#7 7#3 0x7f#7 _ _ _ _ _ _).trans (by simp))

theorem Laws.RowEncoding.divu (rd rs1 rs2 : RegIx) :
    Laws.RowEncoding.Statement (.divu rd rs1 rs2) :=
  Laws.RowEncoding.of_row 34 ⟨"DIVU", 0x02005033#32, 0x0200707f#32⟩ rfl rfl ((and_encR 0x01#7 7#3 0x7f#7 _ _ _ _ _ _).trans (by simp))

theorem Laws.RowEncoding.rem (rd rs1 rs2 : RegIx) :
    Laws.RowEncoding.Statement (.rem rd rs1 rs2) :=
  Laws.RowEncoding.of_row 35 ⟨"REM", 0x02006033#32, 0x0200707f#32⟩ rfl rfl ((and_encR 0x01#7 7#3 0x7f#7 _ _ _ _ _ _).trans (by simp))

theorem Laws.RowEncoding.remu (rd rs1 rs2 : RegIx) :
    Laws.RowEncoding.Statement (.remu rd rs1 rs2) :=
  Laws.RowEncoding.of_row 36 ⟨"REMU", 0x02007033#32, 0x0200707f#32⟩ rfl rfl ((and_encR 0x01#7 7#3 0x7f#7 _ _ _ _ _ _).trans (by simp))

theorem Laws.RowEncoding.beq (rs1 rs2 : RegIx) (imm : Word) :
    Laws.RowEncoding.Statement (.beq rs1 rs2 imm) :=
  Laws.RowEncoding.of_row 37 ⟨"BEQ", 0x00000063#32, 0x0000707f#32⟩ rfl rfl (and_encB _ _ _ _)

theorem Laws.RowEncoding.bne (rs1 rs2 : RegIx) (imm : Word) :
    Laws.RowEncoding.Statement (.bne rs1 rs2 imm) :=
  Laws.RowEncoding.of_row 38 ⟨"BNE", 0x00001063#32, 0x0000707f#32⟩ rfl rfl (and_encB _ _ _ _)

theorem Laws.RowEncoding.blt (rs1 rs2 : RegIx) (imm : Word) :
    Laws.RowEncoding.Statement (.blt rs1 rs2 imm) :=
  Laws.RowEncoding.of_row 39 ⟨"BLT", 0x00004063#32, 0x0000707f#32⟩ rfl rfl (and_encB _ _ _ _)

theorem Laws.RowEncoding.bge (rs1 rs2 : RegIx) (imm : Word) :
    Laws.RowEncoding.Statement (.bge rs1 rs2 imm) :=
  Laws.RowEncoding.of_row 40 ⟨"BGE", 0x00005063#32, 0x0000707f#32⟩ rfl rfl (and_encB _ _ _ _)

theorem Laws.RowEncoding.bltu (rs1 rs2 : RegIx) (imm : Word) :
    Laws.RowEncoding.Statement (.bltu rs1 rs2 imm) :=
  Laws.RowEncoding.of_row 41 ⟨"BLTU", 0x00006063#32, 0x0000707f#32⟩ rfl rfl (and_encB _ _ _ _)

theorem Laws.RowEncoding.bgeu (rs1 rs2 : RegIx) (imm : Word) :
    Laws.RowEncoding.Statement (.bgeu rs1 rs2 imm) :=
  Laws.RowEncoding.of_row 42 ⟨"BGEU", 0x00007063#32, 0x0000707f#32⟩ rfl rfl (and_encB _ _ _ _)

theorem Laws.RowEncoding.jal (rd : RegIx) (imm : Word) :
    Laws.RowEncoding.Statement (.jal rd imm) :=
  Laws.RowEncoding.of_row 43 ⟨"JAL", 0x0000006f#32, 0x0000007f#32⟩ rfl rfl (and_encJ _ _)

theorem Laws.RowEncoding.jalr (rd rs1 : RegIx) (imm : Word) :
    Laws.RowEncoding.Statement (.jalr rd rs1 imm) :=
  Laws.RowEncoding.of_row 44 ⟨"JALR", 0x00000067#32, 0x0000007f#32⟩ rfl rfl ((and_encI 0#12 0#3 0x7f#7 _ _ _ _ _).trans (by simp))

theorem Laws.RowEncoding.lrW (rd rs1 : RegIx) (aq rl : Bool) :
    Laws.RowEncoding.Statement (.lrW rd rs1 aq rl) :=
  Laws.RowEncoding.of_row 45 ⟨"LR.W", 0x1000002f#32, 0xf800007f#32⟩ rfl rfl (and_encAmo _ _ _ _ _ _)

theorem Laws.RowEncoding.scW (rd rs1 rs2 : RegIx) (aq rl : Bool) :
    Laws.RowEncoding.Statement (.scW rd rs1 rs2 aq rl) :=
  Laws.RowEncoding.of_row 46 ⟨"SC.W", 0x1800002f#32, 0xf800007f#32⟩ rfl rfl (and_encAmo _ _ _ _ _ _)

theorem Laws.RowEncoding.amoswapW (rd rs1 rs2 : RegIx) (aq rl : Bool) :
    Laws.RowEncoding.Statement (.amoswapW rd rs1 rs2 aq rl) :=
  Laws.RowEncoding.of_row 47 ⟨"AMOSWAP.W", 0x0800002f#32, 0xf800007f#32⟩ rfl rfl (and_encAmo _ _ _ _ _ _)

theorem Laws.RowEncoding.amoaddW (rd rs1 rs2 : RegIx) (aq rl : Bool) :
    Laws.RowEncoding.Statement (.amoaddW rd rs1 rs2 aq rl) :=
  Laws.RowEncoding.of_row 48 ⟨"AMOADD.W", 0x0000002f#32, 0xf800007f#32⟩ rfl rfl (and_encAmo _ _ _ _ _ _)

theorem Laws.RowEncoding.amoxorW (rd rs1 rs2 : RegIx) (aq rl : Bool) :
    Laws.RowEncoding.Statement (.amoxorW rd rs1 rs2 aq rl) :=
  Laws.RowEncoding.of_row 49 ⟨"AMOXOR.W", 0x2000002f#32, 0xf800007f#32⟩ rfl rfl (and_encAmo _ _ _ _ _ _)

theorem Laws.RowEncoding.amoandW (rd rs1 rs2 : RegIx) (aq rl : Bool) :
    Laws.RowEncoding.Statement (.amoandW rd rs1 rs2 aq rl) :=
  Laws.RowEncoding.of_row 50 ⟨"AMOAND.W", 0x6000002f#32, 0xf800007f#32⟩ rfl rfl (and_encAmo _ _ _ _ _ _)

theorem Laws.RowEncoding.amoorW (rd rs1 rs2 : RegIx) (aq rl : Bool) :
    Laws.RowEncoding.Statement (.amoorW rd rs1 rs2 aq rl) :=
  Laws.RowEncoding.of_row 51 ⟨"AMOOR.W", 0x4000002f#32, 0xf800007f#32⟩ rfl rfl (and_encAmo _ _ _ _ _ _)

theorem Laws.RowEncoding.amominW (rd rs1 rs2 : RegIx) (aq rl : Bool) :
    Laws.RowEncoding.Statement (.amominW rd rs1 rs2 aq rl) :=
  Laws.RowEncoding.of_row 52 ⟨"AMOMIN.W", 0x8000002f#32, 0xf800007f#32⟩ rfl rfl (and_encAmo _ _ _ _ _ _)

theorem Laws.RowEncoding.amomaxW (rd rs1 rs2 : RegIx) (aq rl : Bool) :
    Laws.RowEncoding.Statement (.amomaxW rd rs1 rs2 aq rl) :=
  Laws.RowEncoding.of_row 53 ⟨"AMOMAX.W", 0xa000002f#32, 0xf800007f#32⟩ rfl rfl (and_encAmo _ _ _ _ _ _)

theorem Laws.RowEncoding.amominuW (rd rs1 rs2 : RegIx) (aq rl : Bool) :
    Laws.RowEncoding.Statement (.amominuW rd rs1 rs2 aq rl) :=
  Laws.RowEncoding.of_row 54 ⟨"AMOMINU.W", 0xc000002f#32, 0xf800007f#32⟩ rfl rfl (and_encAmo _ _ _ _ _ _)

theorem Laws.RowEncoding.amomaxuW (rd rs1 rs2 : RegIx) (aq rl : Bool) :
    Laws.RowEncoding.Statement (.amomaxuW rd rs1 rs2 aq rl) :=
  Laws.RowEncoding.of_row 55 ⟨"AMOMAXU.W", 0xe000002f#32, 0xf800007f#32⟩ rfl rfl (and_encAmo _ _ _ _ _ _)

theorem Laws.RowEncoding.fence (fm pred succ : BitVec 4) :
    Laws.RowEncoding.Statement (.fence fm pred succ) :=
  Laws.RowEncoding.of_row 56 ⟨"FENCE", 0x0000000f#32, 0x0000707f#32⟩ rfl rfl ((and_encI 0#12 7#3 0x7f#7 _ _ _ _ _).trans (by simp))

theorem Laws.RowEncoding.fenceI :
    Laws.RowEncoding.Statement .fenceI :=
  Laws.RowEncoding.of_row 57 ⟨"FENCE.I", 0x0000100f#32, 0x0000707f#32⟩ rfl rfl (by decide)

theorem Laws.RowEncoding.miscMemF2 :
    Laws.RowEncoding.Statement .miscMemF2 :=
  Laws.RowEncoding.of_row 58 ⟨"MISC-MEM.f2", 0x0000200f#32, 0x0000707f#32⟩ rfl rfl (by decide)

theorem Laws.RowEncoding.miscMemF3 :
    Laws.RowEncoding.Statement .miscMemF3 :=
  Laws.RowEncoding.of_row 59 ⟨"MISC-MEM.f3", 0x0000300f#32, 0x0000707f#32⟩ rfl rfl (by decide)

theorem Laws.RowEncoding.miscMemF4 :
    Laws.RowEncoding.Statement .miscMemF4 :=
  Laws.RowEncoding.of_row 60 ⟨"MISC-MEM.f4", 0x0000400f#32, 0x0000707f#32⟩ rfl rfl (by decide)

theorem Laws.RowEncoding.miscMemF5 :
    Laws.RowEncoding.Statement .miscMemF5 :=
  Laws.RowEncoding.of_row 61 ⟨"MISC-MEM.f5", 0x0000500f#32, 0x0000707f#32⟩ rfl rfl (by decide)

theorem Laws.RowEncoding.miscMemF6 :
    Laws.RowEncoding.Statement .miscMemF6 :=
  Laws.RowEncoding.of_row 62 ⟨"MISC-MEM.f6", 0x0000600f#32, 0x0000707f#32⟩ rfl rfl (by decide)

theorem Laws.RowEncoding.miscMemF7 :
    Laws.RowEncoding.Statement .miscMemF7 :=
  Laws.RowEncoding.of_row 63 ⟨"MISC-MEM.f7", 0x0000700f#32, 0x0000707f#32⟩ rfl rfl (by decide)

theorem Laws.RowEncoding.ecall :
    Laws.RowEncoding.Statement .ecall :=
  Laws.RowEncoding.of_row 64 ⟨"ECALL", 0x00000073#32, 0xfff0707f#32⟩ rfl rfl (by decide)

theorem Laws.RowEncoding.ebreak :
    Laws.RowEncoding.Statement .ebreak :=
  Laws.RowEncoding.of_row 65 ⟨"EBREAK", 0x00100073#32, 0xfff0707f#32⟩ rfl rfl (by decide)

theorem Laws.RowEncoding.mret :
    Laws.RowEncoding.Statement .mret :=
  Laws.RowEncoding.of_row 66 ⟨"MRET", 0x00200073#32, 0x0ff0707f#32⟩ rfl rfl (by decide)

theorem Laws.RowEncoding.wfi :
    Laws.RowEncoding.Statement .wfi :=
  Laws.RowEncoding.of_row 67 ⟨"WFI", 0x10500073#32, 0xfff0707f#32⟩ rfl rfl (by decide)

theorem Laws.RowEncoding.csrrw (rd rs1 : RegIx) (csr : CsrIx) :
    Laws.RowEncoding.Statement (.csrrw rd rs1 csr) :=
  Laws.RowEncoding.of_row 68 ⟨"CSRRW", 0x00001073#32, 0x0000707f#32⟩ rfl rfl ((and_encI 0#12 7#3 0x7f#7 _ _ _ _ _).trans (by simp))

theorem Laws.RowEncoding.csrrs (rd rs1 : RegIx) (csr : CsrIx) :
    Laws.RowEncoding.Statement (.csrrs rd rs1 csr) :=
  Laws.RowEncoding.of_row 69 ⟨"CSRRS", 0x00002073#32, 0x0000707f#32⟩ rfl rfl ((and_encI 0#12 7#3 0x7f#7 _ _ _ _ _).trans (by simp))

theorem Laws.RowEncoding.csrrc (rd rs1 : RegIx) (csr : CsrIx) :
    Laws.RowEncoding.Statement (.csrrc rd rs1 csr) :=
  Laws.RowEncoding.of_row 70 ⟨"CSRRC", 0x00003073#32, 0x0000707f#32⟩ rfl rfl ((and_encI 0#12 7#3 0x7f#7 _ _ _ _ _).trans (by simp))

theorem Laws.RowEncoding.csrrwi (rd : RegIx) (zimm : BitVec 5) (csr : CsrIx) :
    Laws.RowEncoding.Statement (.csrrwi rd zimm csr) :=
  Laws.RowEncoding.of_row 71 ⟨"CSRRWI", 0x00005073#32, 0x0000707f#32⟩ rfl rfl ((and_encI 0#12 7#3 0x7f#7 _ _ _ _ _).trans (by simp))

theorem Laws.RowEncoding.csrrsi (rd : RegIx) (zimm : BitVec 5) (csr : CsrIx) :
    Laws.RowEncoding.Statement (.csrrsi rd zimm csr) :=
  Laws.RowEncoding.of_row 72 ⟨"CSRRSI", 0x00006073#32, 0x0000707f#32⟩ rfl rfl ((and_encI 0#12 7#3 0x7f#7 _ _ _ _ _).trans (by simp))

theorem Laws.RowEncoding.csrrci (rd : RegIx) (zimm : BitVec 5) (csr : CsrIx) :
    Laws.RowEncoding.Statement (.csrrci rd zimm csr) :=
  Laws.RowEncoding.of_row 73 ⟨"CSRRCI", 0x00007073#32, 0x0000707f#32⟩ rfl rfl ((and_encI 0#12 7#3 0x7f#7 _ _ _ _ _).trans (by simp))

end Sys2Proof
end

