-- ==== Sys2Proof/Laws/Step.lean ====
section
/-!
SUPPORT. What a step can do, said once (spec/60_exceptions.md R300): the start of a call, the end of the loop, an attempt that
comes to an exception before its meaning, or the meaning of the decoded instruction.
-/

namespace Sys2Proof.Machine

variable (s : State)

/-- A fetch that raises nothing reads a whole word of RAM when `RAM_BASE` is a multiple of 4 (R79). -/
theorem wholeFetch_of_aligned (hc : s.cfg.ok = true) (hb : s.cfg.ramBase.toNat % 4 = 0) (hp : s.pc.toNat % 4 = 0)
    (h : (s.pc - s.cfg.ramBase).toNat < s.cfg.ramSize) : s.wholeFetch = true := by
  simp only [Config.ok, Bool.and_eq_true, decide_eq_true_eq, beq_iff_eq] at hc
  have h1 := s.pc.isLt
  have h2 := s.cfg.ramBase.isLt
  simp only [State.wholeFetch, decide_eq_true_eq]
  rw [BitVec.toNat_sub] at h ⊢
  omega

/-- A fetch of a whole word of RAM reads its four bytes (R74, R79). -/
theorem fetchWord_of_whole (hc : s.cfg.ok = true) (h : s.wholeFetch = true) :
    s.fetchWord = readWord s.mem s.pc.toNat := by
  have hr : ∀ k, k < 4 → inRam s.cfg (s.pc.toNat + k) = true := by
    simp only [Config.ok, Bool.and_eq_true, decide_eq_true_eq, beq_iff_eq] at hc
    have h1 := s.pc.isLt
    have h2 := s.cfg.ramBase.isLt
    simp only [State.wholeFetch, decide_eq_true_eq] at h
    rw [BitVec.toNat_sub] at h
    intro k hk
    simp only [inRam, Bool.and_eq_true, decide_eq_true_eq]
    omega
  unfold State.fetchWord State.fetchByte
  rw [if_pos (hr 3 (by decide)), if_pos (hr 2 (by decide)), if_pos (hr 1 (by decide)), if_pos (hr 0 (by decide))]
  rfl

/-- A fetch of a whole word of RAM draws no free value. -/
theorem drawFetch_of_whole (h : s.wholeFetch = true) : s.drawFetch = s := by
  unfold State.drawFetch
  rw [if_pos h]

/-- Drawing for a fetch changes the count of free values and nothing else. -/
theorem drawFetch_eq : s.drawFetch = { s with draws := s.drawFetch.draws } := rfl

/-- The word the claims speak of is the word the fetch reads. -/
theorem fetchedWord_eq : FetchedWord s = s.fetchWord := by
  simp only [FetchedWord, State.fetchWord, State.fetchByte, inRam, Bool.and_eq_true, decide_eq_true_eq]

/-- The state the claims speak of is the one the meaning is given. -/
theorem attemptState_eq (n : Nat) (w : Word) : AttemptState s n w = s.drawFetch.beginAttempt n w := by
  simp only [AttemptState, State.beginAttempt, State.drawFetch, State.wholeFetch, decide_eq_true_eq]

/-- What a fetch gives (R79). -/
theorem fetch_cases :
    (s.cfg.ramSize ≤ (s.pc - s.cfg.ramBase).toNat ∧ s.fetch = .fault .instrAccessFault)
      ∨ ((s.pc - s.cfg.ramBase).toNat < s.cfg.ramSize ∧ s.pc.toNat % 4 ≠ 0 ∧ s.fetch = .fault .instrAddressMisaligned)
      ∨ ((s.pc - s.cfg.ramBase).toNat < s.cfg.ramSize ∧ s.pc.toNat % 4 = 0
          ∧ s.fetch = .word s.fetchWord) := by
  unfold State.fetch
  generalize (s.pc - s.cfg.ramBase).toNat = off
  by_cases h : s.cfg.ramSize ≤ off
  · simp [h]
  · have hlt : off < s.cfg.ramSize := by omega
    by_cases h' : s.pc.toNat % 4 = 0 <;> simp [h, h', hlt]

/-- What an attempt comes to before its meaning (R300, R314). -/
theorem attempt_cases (n : Nat) :
    (∃ e, s.fetch = .fault e ∧ s.attempt n = .done ((s.beginAttempt n 0#32).raise e s.pc))
      ∨ (∃ w i, s.fetch = .word w ∧ decode w = .ok i ∧ s.attempt n = .run i (s.drawFetch.beginAttempt n w))
      ∨ (∃ w e, s.fetch = .word w ∧ decode w = .error e
          ∧ s.attempt n
            = .done ((s.drawFetch.beginAttempt n w).raise .illegalInstruction (s.drawFetch.beginAttempt n w).illegalTval)) := by
  unfold State.attempt
  cases hf : s.fetch with
  | fault e => simp
  | word w =>
    cases hd : decode w with
    | ok i => exact .inr (.inl ⟨w, i, rfl, hd, by simp [hd]⟩)
    | error e => exact .inr (.inr ⟨w, e, rfl, hd, by simp [hd]⟩)

/-- Everything a step that answers a next state can have done. -/
theorem step_cases {s t : State} (h : step s = .next t) :
    s.cfg.ok = true ∧ s.status = .running ∧
      ((s.call = none ∧ t = s.beginCall)
        ∨ (s.call = some 0 ∧ t = s.returnNormal)
        ∨ (∃ n e, s.call = some (n + 1) ∧ s.fetch = .fault e ∧ t = (s.beginAttempt n 0#32).raise e s.pc)
        ∨ (∃ n w e, s.call = some (n + 1) ∧ s.fetch = .word w ∧ decode w = .error e
            ∧ t = (s.drawFetch.beginAttempt n w).raise .illegalInstruction (s.drawFetch.beginAttempt n w).illegalTval)
        ∨ (∃ n w i, s.call = some (n + 1) ∧ s.fetch = .word w ∧ decode w = .ok i
            ∧ exec i (s.drawFetch.beginAttempt n w) = .next t)) := by
  unfold step at h
  split at h
  · next hc =>
    refine ⟨hc, ?_⟩
    cases hs : s.status with
    | aborted e => simp [hs] at h
    | hostStopped v => simp [hs] at h
    | running =>
      refine ⟨rfl, ?_⟩
      simp only [hs, stepRunning] at h
      cases hk : s.call with
      | none =>
        simp only [hk] at h
        cases h
        exact .inl ⟨rfl, rfl⟩
      | some k =>
        cases k with
        | zero =>
          simp only [hk] at h
          cases h
          exact .inr (.inl ⟨rfl, rfl⟩)
        | succ n =>
          simp only [hk] at h
          rcases attempt_cases s n with ⟨e, hf, ha⟩ | ⟨w, i, hf, hd, ha⟩ | ⟨w, e, hf, hd, ha⟩
          · simp only [ha, runAttempt] at h
            cases h
            exact .inr (.inr (.inl ⟨n, e, rfl, hf, rfl⟩))
          · simp only [ha, runAttempt] at h
            exact .inr (.inr (.inr (.inr ⟨n, w, i, rfl, hf, hd, h⟩)))
          · simp only [ha, runAttempt] at h
            cases h
            exact .inr (.inr (.inr (.inl ⟨n, w, e, rfl, hf, hd, rfl⟩)))
  · cases h

/-- A step inside a call with attempts left is the attempt. -/
theorem step_of_attempt {n : Nat} (hc : s.cfg.ok = true) (hs : s.status = .running) (hk : s.call = some (n + 1)) :
    step s = runAttempt (s.attempt n) := by
  simp [step, stepRunning, hc, hs, hk]

/-- A step between two calls starts the next one. -/
theorem step_of_idle (hc : s.cfg.ok = true) (hs : s.status = .running) (hk : s.call = none) :
    step s = .next s.beginCall := by
  simp [step, stepRunning, hc, hs, hk]

end Sys2Proof.Machine
end

