-- ==== Sys2Proof/Tests/Slice0.lean ====
section
/-!
SUPPORT. The model's own tests: the well-formedness checks, decoding of words written out from spec/30_encoding.md, the
spec's own vectors (spec/95_test_vectors.md), and a witness for the hypotheses of every statement. Every expected value comes
from spec/95_test_vectors.md or is worked by hand from the rule named.
-/

namespace Sys2Proof.Tests

open Sys2Proof.Machine

/-! ## Helpers -/

/-- The configuration of the "Common setup" of spec/95_test_vectors.md. -/
def cfg95 : Config := { Config.default with ramSize := 0x10000 }

/-- A hook that answers 0 and does nothing else. -/
def quiet : HostReply := ⟨0#32, none, none, []⟩

/-- The state of a single-instruction vector: reset, `mtvec` set, and a call of one attempt in progress. -/
def s95 : State :=
  { State.resetWith cfg95 [] with mtvec := 0x80000200#32, call := some 1, replies := [quiet, quiet] }

/-- The next state has the property. -/
def nextHas (o : Answer) (p : State → Bool) : Bool :=
  match o with
  | .next t => p t
  | .fault _ => false
  | .refused _ => false

/-- The very next step runs the word in the state, and its next state has the property. -/
def runs (s : State) (w : Nat) (p : State → Bool) : Bool := nextHas (step (s.withFetchWord 32 w)) p

/-- `s` with a word of RAM. -/
def withWord (s : State) (a : Nat) (v : Word) : State := { s with mem := writeWord s.mem a v }

/-- A register's value and the pc. -/
def regPc (r : RegIx) (v pc : Word) (t : State) : Bool := t.x r == v && t.pc == pc

/-- A trap's saved registers, the handler's address, and the hook call before the call's return; the code is R311's. -/
def trapped (e : Exc) (code w mepc mtval : Word) (t : State) : Bool :=
  t.mcause == code && t.mepc == mepc && t.mtval == mtval && t.pc == 0x80000200#32 && t.priv == 3#2
    && t.call.isNone && t.events == [.exception w e, .returned .normal]

theorem next_of_nextHas {o : Answer} {p : State → Bool} (h : nextHas o p = true) : ∃ t, o = .next t ∧ p t = true := by
  cases o with
  | next t => exact ⟨t, rfl, h⟩
  | fault e => cases h
  | refused r => cases h

/-! ## Well-formedness refuses what the encoding does not admit (R113 to R117) -/

theorem test_wf_i_too_big : (Instr.addi 1#5 2#5 2048#32).wf = false := by decide
theorem test_wf_i_too_small : (Instr.lw 1#5 2#5 0xfffff7ff#32).wf = false := by decide
theorem test_wf_s_too_big : (Instr.sw 1#5 2#5 2048#32).wf = false := by decide
theorem test_wf_b_odd : (Instr.beq 1#5 2#5 3#32).wf = false := by decide
theorem test_wf_b_too_big : (Instr.beq 1#5 2#5 4096#32).wf = false := by decide
theorem test_wf_b_too_small : (Instr.bgeu 1#5 2#5 0xffffeffe#32).wf = false := by decide
theorem test_wf_u_low_bits : (Instr.lui 1#5 0x12345001#32).wf = false := by decide
theorem test_wf_j_odd : (Instr.jal 1#5 1#32).wf = false := by decide
theorem test_wf_j_too_big : (Instr.jal 1#5 0x100000#32).wf = false := by decide
theorem test_wf_j_too_small : (Instr.jal 1#5 0xffeffffe#32).wf = false := by decide
theorem test_wf_bounds : (Instr.addi 0#5 0#5 0xfffff800#32).wf = true ∧ (Instr.sb 0#5 0#5 2047#32).wf = true
    ∧ (Instr.bne 0#5 0#5 4094#32).wf = true ∧ (Instr.jal 0#5 0xfff00000#32).wf = true
    ∧ (Instr.auipc 0#5 0xfffff000#32).wf = true := by decide

/-! ## Decoding: one word per constructor, written out bit by bit from R111 to R126 -/

theorem test_decode_lui : decode (0b10000000000000000001#20 ++ 0b00101#5 ++ 0b0110111#7) = .ok (.lui 5#5 0x80001000#32) := by decide
theorem test_decode_auipc : decode (0b10000000000000000001#20 ++ 0b00101#5 ++ 0b0010111#7) = .ok (.auipc 5#5 0x80001000#32) := by decide
theorem test_decode_lb : decode (0b100000000001#12 ++ 0b00010#5 ++ 0b000#3 ++ 0b10000#5 ++ 0b0000011#7) = .ok (.lb 16#5 2#5 0xfffff801#32) := by decide
theorem test_decode_lh : decode (0b100000000001#12 ++ 0b00010#5 ++ 0b001#3 ++ 0b10000#5 ++ 0b0000011#7) = .ok (.lh 16#5 2#5 0xfffff801#32) := by decide
theorem test_decode_lw : decode (0b100000000001#12 ++ 0b00010#5 ++ 0b010#3 ++ 0b10000#5 ++ 0b0000011#7) = .ok (.lw 16#5 2#5 0xfffff801#32) := by decide
theorem test_decode_lbu : decode (0b100000000001#12 ++ 0b00010#5 ++ 0b100#3 ++ 0b10000#5 ++ 0b0000011#7) = .ok (.lbu 16#5 2#5 0xfffff801#32) := by decide
theorem test_decode_lhu : decode (0b100000000001#12 ++ 0b00010#5 ++ 0b101#3 ++ 0b10000#5 ++ 0b0000011#7) = .ok (.lhu 16#5 2#5 0xfffff801#32) := by decide
theorem test_decode_sb : decode (0b1000000#7 ++ 0b10000#5 ++ 0b00010#5 ++ 0b000#3 ++ 0b00001#5 ++ 0b0100011#7) = .ok (.sb 2#5 16#5 0xfffff801#32) := by decide
theorem test_decode_sh : decode (0b1000000#7 ++ 0b10000#5 ++ 0b00010#5 ++ 0b001#3 ++ 0b00001#5 ++ 0b0100011#7) = .ok (.sh 2#5 16#5 0xfffff801#32) := by decide
theorem test_decode_sw : decode (0b1000000#7 ++ 0b10000#5 ++ 0b00010#5 ++ 0b010#3 ++ 0b00001#5 ++ 0b0100011#7) = .ok (.sw 2#5 16#5 0xfffff801#32) := by decide
theorem test_decode_addi : decode (0b010000000010#12 ++ 0b00001#5 ++ 0b000#3 ++ 0b01000#5 ++ 0b0010011#7) = .ok (.addi 8#5 1#5 1026#32) := by decide
theorem test_decode_slti : decode (0b010000000010#12 ++ 0b00001#5 ++ 0b010#3 ++ 0b01000#5 ++ 0b0010011#7) = .ok (.slti 8#5 1#5 1026#32) := by decide
theorem test_decode_sltiu : decode (0b010000000010#12 ++ 0b00001#5 ++ 0b011#3 ++ 0b01000#5 ++ 0b0010011#7) = .ok (.sltiu 8#5 1#5 1026#32) := by decide
theorem test_decode_xori : decode (0b010000000010#12 ++ 0b00001#5 ++ 0b100#3 ++ 0b01000#5 ++ 0b0010011#7) = .ok (.xori 8#5 1#5 1026#32) := by decide
theorem test_decode_ori : decode (0b010000000010#12 ++ 0b00001#5 ++ 0b110#3 ++ 0b01000#5 ++ 0b0010011#7) = .ok (.ori 8#5 1#5 1026#32) := by decide
theorem test_decode_andi : decode (0b010000000010#12 ++ 0b00001#5 ++ 0b111#3 ++ 0b01000#5 ++ 0b0010011#7) = .ok (.andi 8#5 1#5 1026#32) := by decide
theorem test_decode_slli : decode (0b0000000#7 ++ 0b10001#5 ++ 0b00100#5 ++ 0b001#3 ++ 0b00010#5 ++ 0b0010011#7) = .ok (.slli 2#5 4#5 17#5) := by decide
theorem test_decode_srli : decode (0b0000000#7 ++ 0b10001#5 ++ 0b00100#5 ++ 0b101#3 ++ 0b00010#5 ++ 0b0010011#7) = .ok (.srli 2#5 4#5 17#5) := by decide
theorem test_decode_srai : decode (0b0100000#7 ++ 0b10001#5 ++ 0b00100#5 ++ 0b101#3 ++ 0b00010#5 ++ 0b0010011#7) = .ok (.srai 2#5 4#5 17#5) := by decide
theorem test_decode_add : decode (0b0000000#7 ++ 0b00011#5 ++ 0b00010#5 ++ 0b000#3 ++ 0b00001#5 ++ 0b0110011#7) = .ok (.add 1#5 2#5 3#5) := by decide
theorem test_decode_sub : decode (0b0100000#7 ++ 0b00011#5 ++ 0b00010#5 ++ 0b000#3 ++ 0b00001#5 ++ 0b0110011#7) = .ok (.sub 1#5 2#5 3#5) := by decide
theorem test_decode_sll : decode (0b0000000#7 ++ 0b00011#5 ++ 0b00010#5 ++ 0b001#3 ++ 0b00001#5 ++ 0b0110011#7) = .ok (.sll 1#5 2#5 3#5) := by decide
theorem test_decode_slt : decode (0b0000000#7 ++ 0b00011#5 ++ 0b00010#5 ++ 0b010#3 ++ 0b00001#5 ++ 0b0110011#7) = .ok (.slt 1#5 2#5 3#5) := by decide
theorem test_decode_sltu : decode (0b0000000#7 ++ 0b00011#5 ++ 0b00010#5 ++ 0b011#3 ++ 0b00001#5 ++ 0b0110011#7) = .ok (.sltu 1#5 2#5 3#5) := by decide
theorem test_decode_xor : decode (0b0000000#7 ++ 0b00011#5 ++ 0b00010#5 ++ 0b100#3 ++ 0b00001#5 ++ 0b0110011#7) = .ok (.xor 1#5 2#5 3#5) := by decide
theorem test_decode_or : decode (0b0000000#7 ++ 0b00011#5 ++ 0b00010#5 ++ 0b110#3 ++ 0b00001#5 ++ 0b0110011#7) = .ok (.or 1#5 2#5 3#5) := by decide
theorem test_decode_and : decode (0b0000000#7 ++ 0b00011#5 ++ 0b00010#5 ++ 0b111#3 ++ 0b00001#5 ++ 0b0110011#7) = .ok (.and 1#5 2#5 3#5) := by decide
theorem test_decode_srl : decode (0b0000000#7 ++ 0b00011#5 ++ 0b00010#5 ++ 0b101#3 ++ 0b00001#5 ++ 0b0110011#7) = .ok (.srl 1#5 2#5 3#5) := by decide
theorem test_decode_sra : decode (0b0100000#7 ++ 0b00011#5 ++ 0b00010#5 ++ 0b101#3 ++ 0b00001#5 ++ 0b0110011#7) = .ok (.sra 1#5 2#5 3#5) := by decide
theorem test_decode_mul : decode (0b0000001#7 ++ 0b00011#5 ++ 0b00010#5 ++ 0b000#3 ++ 0b00001#5 ++ 0b0110011#7) = .ok (.mul 1#5 2#5 3#5) := by decide
theorem test_decode_mulh : decode (0b0000001#7 ++ 0b00011#5 ++ 0b00010#5 ++ 0b001#3 ++ 0b00001#5 ++ 0b0110011#7) = .ok (.mulh 1#5 2#5 3#5) := by decide
theorem test_decode_mulhsu : decode (0b0000001#7 ++ 0b00011#5 ++ 0b00010#5 ++ 0b010#3 ++ 0b00001#5 ++ 0b0110011#7) = .ok (.mulhsu 1#5 2#5 3#5) := by decide
theorem test_decode_mulhu : decode (0b0000001#7 ++ 0b00011#5 ++ 0b00010#5 ++ 0b011#3 ++ 0b00001#5 ++ 0b0110011#7) = .ok (.mulhu 1#5 2#5 3#5) := by decide
theorem test_decode_div : decode (0b0000001#7 ++ 0b00011#5 ++ 0b00010#5 ++ 0b100#3 ++ 0b00001#5 ++ 0b0110011#7) = .ok (.div 1#5 2#5 3#5) := by decide
theorem test_decode_divu : decode (0b0000001#7 ++ 0b00011#5 ++ 0b00010#5 ++ 0b101#3 ++ 0b00001#5 ++ 0b0110011#7) = .ok (.divu 1#5 2#5 3#5) := by decide
theorem test_decode_rem : decode (0b0000001#7 ++ 0b00011#5 ++ 0b00010#5 ++ 0b110#3 ++ 0b00001#5 ++ 0b0110011#7) = .ok (.rem 1#5 2#5 3#5) := by decide
theorem test_decode_remu : decode (0b0000001#7 ++ 0b00011#5 ++ 0b00010#5 ++ 0b111#3 ++ 0b00001#5 ++ 0b0110011#7) = .ok (.remu 1#5 2#5 3#5) := by decide
theorem test_decode_beq : decode (0b1#1 ++ 0b000000#6 ++ 0b00110#5 ++ 0b00101#5 ++ 0b000#3 ++ 0b0000#4 ++ 0b0#1 ++ 0b1100011#7) = .ok (.beq 5#5 6#5 0xfffff000#32) := by decide
theorem test_decode_bne : decode (0b0#1 ++ 0b000000#6 ++ 0b00110#5 ++ 0b00101#5 ++ 0b001#3 ++ 0b0000#4 ++ 0b1#1 ++ 0b1100011#7) = .ok (.bne 5#5 6#5 2048#32) := by decide
theorem test_decode_blt : decode (0b0#1 ++ 0b000001#6 ++ 0b00110#5 ++ 0b00101#5 ++ 0b100#3 ++ 0b0000#4 ++ 0b0#1 ++ 0b1100011#7) = .ok (.blt 5#5 6#5 32#32) := by decide
theorem test_decode_bge : decode (0b0#1 ++ 0b000000#6 ++ 0b00110#5 ++ 0b00101#5 ++ 0b101#3 ++ 0b1000#4 ++ 0b0#1 ++ 0b1100011#7) = .ok (.bge 5#5 6#5 16#32) := by decide
theorem test_decode_bltu : decode (0b0#1 ++ 0b100000#6 ++ 0b00110#5 ++ 0b00101#5 ++ 0b110#3 ++ 0b0000#4 ++ 0b0#1 ++ 0b1100011#7) = .ok (.bltu 5#5 6#5 1024#32) := by decide
theorem test_decode_bgeu : decode (0b0#1 ++ 0b000000#6 ++ 0b00110#5 ++ 0b00101#5 ++ 0b111#3 ++ 0b0001#4 ++ 0b0#1 ++ 0b1100011#7) = .ok (.bgeu 5#5 6#5 2#32) := by decide
theorem test_decode_jal : decode (0b1#1 ++ 0b0000000010#10 ++ 0b1#1 ++ 0b10000000#8 ++ 0b00001#5 ++ 0b1101111#7) = .ok (.jal 1#5 0xfff80804#32) := by decide
theorem test_decode_jalr : decode (0b111111111111#12 ++ 0b01010#5 ++ 0b000#3 ++ 0b00001#5 ++ 0b1100111#7) = .ok (.jalr 1#5 10#5 0xffffffff#32) := by decide
theorem test_decode_lrW : decode (0b00010#5 ++ 0b1#1 ++ 0b0#1 ++ 0b00000#5 ++ 0b01010#5 ++ 0b010#3 ++ 0b00101#5 ++ 0b0101111#7) = .ok (.lrW 5#5 10#5 true false) := by decide
theorem test_decode_scW : decode (0b00011#5 ++ 0b1#1 ++ 0b0#1 ++ 0b01011#5 ++ 0b01010#5 ++ 0b010#3 ++ 0b00101#5 ++ 0b0101111#7) = .ok (.scW 5#5 10#5 11#5 true false) := by decide
theorem test_decode_amoswapW : decode (0b00001#5 ++ 0b1#1 ++ 0b0#1 ++ 0b01011#5 ++ 0b01010#5 ++ 0b010#3 ++ 0b00101#5 ++ 0b0101111#7) = .ok (.amoswapW 5#5 10#5 11#5 true false) := by decide
theorem test_decode_amoaddW : decode (0b00000#5 ++ 0b1#1 ++ 0b0#1 ++ 0b01011#5 ++ 0b01010#5 ++ 0b010#3 ++ 0b00101#5 ++ 0b0101111#7) = .ok (.amoaddW 5#5 10#5 11#5 true false) := by decide
theorem test_decode_amoxorW : decode (0b00100#5 ++ 0b1#1 ++ 0b0#1 ++ 0b01011#5 ++ 0b01010#5 ++ 0b010#3 ++ 0b00101#5 ++ 0b0101111#7) = .ok (.amoxorW 5#5 10#5 11#5 true false) := by decide
theorem test_decode_amoandW : decode (0b01100#5 ++ 0b1#1 ++ 0b0#1 ++ 0b01011#5 ++ 0b01010#5 ++ 0b010#3 ++ 0b00101#5 ++ 0b0101111#7) = .ok (.amoandW 5#5 10#5 11#5 true false) := by decide
theorem test_decode_amoorW : decode (0b01000#5 ++ 0b1#1 ++ 0b0#1 ++ 0b01011#5 ++ 0b01010#5 ++ 0b010#3 ++ 0b00101#5 ++ 0b0101111#7) = .ok (.amoorW 5#5 10#5 11#5 true false) := by decide
theorem test_decode_amominW : decode (0b10000#5 ++ 0b1#1 ++ 0b0#1 ++ 0b01011#5 ++ 0b01010#5 ++ 0b010#3 ++ 0b00101#5 ++ 0b0101111#7) = .ok (.amominW 5#5 10#5 11#5 true false) := by decide
theorem test_decode_amomaxW : decode (0b10100#5 ++ 0b1#1 ++ 0b0#1 ++ 0b01011#5 ++ 0b01010#5 ++ 0b010#3 ++ 0b00101#5 ++ 0b0101111#7) = .ok (.amomaxW 5#5 10#5 11#5 true false) := by decide
theorem test_decode_amominuW : decode (0b11000#5 ++ 0b1#1 ++ 0b0#1 ++ 0b01011#5 ++ 0b01010#5 ++ 0b010#3 ++ 0b00101#5 ++ 0b0101111#7) = .ok (.amominuW 5#5 10#5 11#5 true false) := by decide
theorem test_decode_amomaxuW : decode (0b11100#5 ++ 0b1#1 ++ 0b0#1 ++ 0b01011#5 ++ 0b01010#5 ++ 0b010#3 ++ 0b00101#5 ++ 0b0101111#7) = .ok (.amomaxuW 5#5 10#5 11#5 true false) := by decide
theorem test_decode_fence : decode (0b1000#4 ++ 0b0011#4 ++ 0b0001#4 ++ 0b00000#5 ++ 0b000#3 ++ 0b00000#5 ++ 0b0001111#7) = .ok (.fence 8#4 3#4 1#4) := by decide
theorem test_decode_fenceI : decode (0b000000000000#12 ++ 0b00000#5 ++ 0b001#3 ++ 0b00000#5 ++ 0b0001111#7) = .ok (.fenceI) := by decide
theorem test_decode_miscMemF2 : decode (0b000000000000#12 ++ 0b00000#5 ++ 0b010#3 ++ 0b00000#5 ++ 0b0001111#7) = .ok (.miscMemF2) := by decide
theorem test_decode_miscMemF3 : decode (0b000000000000#12 ++ 0b00000#5 ++ 0b011#3 ++ 0b00000#5 ++ 0b0001111#7) = .ok (.miscMemF3) := by decide
theorem test_decode_miscMemF4 : decode (0b000000000000#12 ++ 0b00000#5 ++ 0b100#3 ++ 0b00000#5 ++ 0b0001111#7) = .ok (.miscMemF4) := by decide
theorem test_decode_miscMemF5 : decode (0b000000000000#12 ++ 0b00000#5 ++ 0b101#3 ++ 0b00000#5 ++ 0b0001111#7) = .ok (.miscMemF5) := by decide
theorem test_decode_miscMemF6 : decode (0b000000000000#12 ++ 0b00000#5 ++ 0b110#3 ++ 0b00000#5 ++ 0b0001111#7) = .ok (.miscMemF6) := by decide
theorem test_decode_miscMemF7 : decode (0b000000000000#12 ++ 0b00000#5 ++ 0b111#3 ++ 0b00000#5 ++ 0b0001111#7) = .ok (.miscMemF7) := by decide
theorem test_decode_ecall : decode (0b000000000000#12 ++ 0b00000#5 ++ 0b000#3 ++ 0b00000#5 ++ 0b1110011#7) = .ok (.ecall) := by decide
theorem test_decode_ebreak : decode (0b000000000001#12 ++ 0b00000#5 ++ 0b000#3 ++ 0b00000#5 ++ 0b1110011#7) = .ok (.ebreak) := by decide
theorem test_decode_mret : decode (0b001100000010#12 ++ 0b00000#5 ++ 0b000#3 ++ 0b00000#5 ++ 0b1110011#7) = .ok (.mret) := by decide
theorem test_decode_wfi : decode (0b000100000101#12 ++ 0b00000#5 ++ 0b000#3 ++ 0b00000#5 ++ 0b1110011#7) = .ok (.wfi) := by decide
theorem test_decode_csrrw : decode (0b001101000000#12 ++ 0b10001#5 ++ 0b001#3 ++ 0b00101#5 ++ 0b1110011#7) = .ok (.csrrw 5#5 17#5 0x340#12) := by decide
theorem test_decode_csrrs : decode (0b001101000000#12 ++ 0b10001#5 ++ 0b010#3 ++ 0b00101#5 ++ 0b1110011#7) = .ok (.csrrs 5#5 17#5 0x340#12) := by decide
theorem test_decode_csrrc : decode (0b001101000000#12 ++ 0b10001#5 ++ 0b011#3 ++ 0b00101#5 ++ 0b1110011#7) = .ok (.csrrc 5#5 17#5 0x340#12) := by decide
theorem test_decode_csrrwi : decode (0b001101000000#12 ++ 0b10001#5 ++ 0b101#3 ++ 0b00101#5 ++ 0b1110011#7) = .ok (.csrrwi 5#5 17#5 0x340#12) := by decide
theorem test_decode_csrrsi : decode (0b001101000000#12 ++ 0b10001#5 ++ 0b110#3 ++ 0b00101#5 ++ 0b1110011#7) = .ok (.csrrsi 5#5 17#5 0x340#12) := by decide
theorem test_decode_csrrci : decode (0b001101000000#12 ++ 0b10001#5 ++ 0b111#3 ++ 0b00101#5 ++ 0b1110011#7) = .ok (.csrrci 5#5 17#5 0x340#12) := by decide

/-- The lenient decodings of spec/95_test_vectors.md (R122, R124, R125, R127). -/
theorem test_decode_lenient : decode 0x00007067#32 = .ok (.jalr 0#5 0#5 0#32)
    ∧ decode 0x80830533#32 = .ok (.add 10#5 6#5 8#5) ∧ decode 0x40741533#32 = .ok (.sll 10#5 8#5 7#5)
    ∧ decode 0x42000033#32 = .ok (.mul 0#5 0#5 0#5) ∧ decode 0x40001013#32 = .ok (.slli 0#5 0#5 0#5)
    ∧ decode 0x0000302f#32 = .ok (.amoaddW 0#5 0#5 0#5 false false)
    ∧ decode 0x1010202f#32 = .ok (.lrW 0#5 0#5 false false) ∧ decode 0x10200073#32 = .ok .mret
    ∧ decode 0x00000473#32 = .ok .ecall ∧ decode 0x10500f73#32 = .ok .wfi := by decide

/-- The illegal words of spec/95_test_vectors.md, each under its name (R128). -/
theorem test_decode_illegal : decode 0#32 = .error .opcode ∧ decode 0xffffffff#32 = .error .opcode
    ∧ decode 0x00003003#32 = .error .loadFunct3 ∧ decode 0x00006003#32 = .error .loadFunct3
    ∧ decode 0x00003023#32 = .error .storeFunct3 ∧ decode 0x00002063#32 = .error .branchFunct3
    ∧ decode 0x2800202f#32 = .error .amoFunct5 ∧ decode 0x7b200073#32 = .error .systemImm12
    ∧ decode 0x00004073#32 = .error .systemFunct3 ∧ decode 0x00000007#32 = .error .opcode := by decide

/-- Four bytes are one instruction, least significant first (R110); fewer are none. -/
theorem test_decode_bytes : decodeBytes [0x93#8, 0x00#8, 0x50#8, 0x00#8, 0x33#8] = .ok (.addi 1#5 0#5 5#32, [0x33#8])
    ∧ decodeBytes [0x93#8, 0x00#8, 0x50#8] = .error .tooShort := by decide

/-- The encoder writes the spec's words (spec/95_test_vectors.md). -/
theorem test_encode : encode (.sw 10#5 11#5 0xfffffffc#32) = 0xfeb52e23#32 ∧ encode .mret = 0x30200073#32
    ∧ encode (.jal 0#5 0xffffffc0#32) = 0xfc1ff06f#32 ∧ encode (.bne 5#5 6#5 0xfffffff0#32) = 0xfe6298e3#32 := by decide

/-! ## The spec's own vectors (spec/95_test_vectors.md, part 2), one step each -/

/-- "base" of the loads and stores. -/
def sLoad : State := withWord (s95.setX 10#5 0x80000100#32) 0x80000100 0x8081ff7f#32

/-- The start state of the store vectors. -/
def sStore : State := sLoad.setX 11#5 0x123456ab#32

/-- "base" of the integer, multiply and divide tables. -/
def sAlu : State :=
  (((((s95.setX 5#5 0x80000000#32).setX 6#5 0x7fffffff#32).setX 7#5 0xffffffff#32).setX 8#5 5#32).setX 9#5
    0xfffffffe#32).setX 11#5 3#32

/-- "base" of the control-transfer table: the instruction is at 0x80000040. -/
def sBr : State := sAlu.setPc 0x80000040#32

/-- "base" of the atomics. -/
def sAmo : State :=
  withWord (((s95.setX 10#5 0x80000100#32).setX 11#5 7#32).setX 12#5 0xfffffffe#32) 0x80000100 5#32

theorem test_lui : runs s95 0x12345537 (regPc 10#5 0x12345000#32 0x80000004#32) = true := by decide
theorem test_lui_x0 : runs s95 0x12345037 (regPc 0#5 0#32 0x80000004#32) = true := by decide
theorem test_auipc : runs s95 0x00000517 (regPc 10#5 0x80000000#32 0x80000004#32) = true := by decide
theorem test_auipc_wraps : runs s95 0x80000517 (regPc 10#5 0#32 0x80000004#32) = true := by decide
theorem test_lb : runs sLoad 0x00350283 (regPc 5#5 0xffffff80#32 0x80000004#32) = true := by decide
theorem test_lbu : runs sLoad 0x00154283 (regPc 5#5 0xff#32 0x80000004#32) = true := by decide
theorem test_lh : runs sLoad 0x00251283 (regPc 5#5 0xffff8081#32 0x80000004#32) = true := by decide
theorem test_lhu : runs sLoad 0x00255283 (regPc 5#5 0x8081#32 0x80000004#32) = true := by decide
theorem test_lw : runs sLoad 0x00052283 (regPc 5#5 0x8081ff7f#32 0x80000004#32) = true := by decide
theorem test_lh_misaligned :
    runs sLoad 0x00151283 (trapped .loadAddressMisaligned 4#32 0x00151283#32 0x80000000#32 0x80000101#32) = true := by decide
theorem test_lw_below_ram : runs (s95.setX 10#5 0x80000000#32) 0xffc52283
    (trapped .loadAccessFault 5#32 0xffc52283#32 0x80000000#32 0x7ffffffc#32) = true := by decide
theorem test_sb : runs sStore 0x00b500a3 (fun t => readWord t.mem 0x80000100 == 0x8081ab7f#32 && t.pc == 0x80000004#32) = true := by decide
theorem test_sh : runs sStore 0x00b51123 (fun t => readWord t.mem 0x80000100 == 0x56abff7f#32 && t.pc == 0x80000004#32) = true := by decide
theorem test_sw : runs sStore 0x00b52023 (fun t => readWord t.mem 0x80000100 == 0x123456ab#32 && t.pc == 0x80000004#32) = true := by decide
theorem test_sh_misaligned : runs sStore 0x00b511a3 (fun t =>
    trapped .storeAddressMisaligned 6#32 0x00b511a3#32 0x80000000#32 0x80000103#32 t
      && readWord t.mem 0x80000100 == 0x8081ff7f#32) = true := by decide
theorem test_sb_invalid : runs ((s95.setX 10#5 0x20000000#32).setX 11#5 1#32) 0x00b50023
    (trapped .storeAccessFault 7#32 0x00b50023#32 0x80000000#32 0x20000000#32) = true := by decide
theorem test_sw_mmio : runs ((s95.setX 10#5 0x11100000#32).setX 11#5 0x5555#32) 0x00b52023
    (fun t => t.pc == 0x80000004#32 && t.events == [.mmioStore 0x11100000#32 0x5555#32]) = true := by decide
theorem test_sw_intercepted :
    runs { (s95.setX 10#5 0x11100000#32).setX 11#5 0x5555#32 with replies := [⟨0x5555#32, none, none, []⟩] } 0x00b52023
      (fun t => t.status == .hostStopped 0x5555#32 && t.call.isNone) = true := by decide
theorem test_addi : runs sAlu 0x80028513 (regPc 10#5 0x7ffff800#32 0x80000004#32) = true := by decide
theorem test_slti : runs sAlu 0xfff2a513 (regPc 10#5 1#32 0x80000004#32) = true := by decide
theorem test_sltiu : runs sAlu 0xfff43513 (regPc 10#5 1#32 0x80000004#32) = true := by decide
theorem test_sltiu_equal : runs sAlu 0xfff3b513 (regPc 10#5 0#32 0x80000004#32) = true := by decide
theorem test_xori : runs sAlu 0xfff44513 (regPc 10#5 0xfffffffa#32 0x80000004#32) = true := by decide
theorem test_ori : runs sAlu 0x7ff2e513 (regPc 10#5 0x800007ff#32 0x80000004#32) = true := by decide
theorem test_andi : runs sAlu 0xff03f513 (regPc 10#5 0xfffffff0#32 0x80000004#32) = true := by decide
theorem test_slli : runs sAlu 0x01f41513 (regPc 10#5 0x80000000#32 0x80000004#32) = true := by decide
theorem test_srli : runs sAlu 0x01f2d513 (regPc 10#5 1#32 0x80000004#32) = true := by decide
theorem test_srai : runs sAlu 0x41f2d513 (regPc 10#5 0xffffffff#32 0x80000004#32) = true := by decide
theorem test_add : runs sAlu 0x00830533 (regPc 10#5 0x80000004#32 0x80000004#32) = true := by decide
theorem test_add_wraps : runs sAlu 0x00528533 (regPc 10#5 0#32 0x80000004#32) = true := by decide
theorem test_sub : runs sAlu 0x40828533 (regPc 10#5 0x7ffffffb#32 0x80000004#32) = true := by decide
theorem test_sll_low_five_bits : runs sAlu 0x00741533 (regPc 10#5 0x80000000#32 0x80000004#32) = true := by decide
theorem test_slt : runs sAlu 0x0062a533 (regPc 10#5 1#32 0x80000004#32) = true := by decide
theorem test_sltu : runs sAlu 0x0062b533 (regPc 10#5 0#32 0x80000004#32) = true := by decide
theorem test_xor : runs sAlu 0x00734533 (regPc 10#5 0x80000000#32 0x80000004#32) = true := by decide
theorem test_srl : runs sAlu 0x0083d533 (regPc 10#5 0x07ffffff#32 0x80000004#32) = true := by decide
theorem test_sra_low_five_bits : runs sAlu 0x4072d533 (regPc 10#5 0xffffffff#32 0x80000004#32) = true := by decide
theorem test_or : runs sAlu 0x0062e533 (regPc 10#5 0xffffffff#32 0x80000004#32) = true := by decide
theorem test_and : runs sAlu 0x0072f533 (regPc 10#5 0x80000000#32 0x80000004#32) = true := by decide
theorem test_mul : runs sAlu 0x02830533 (regPc 10#5 0x7ffffffb#32 0x80000004#32) = true := by decide
theorem test_mulh : runs sAlu 0x02529533 (regPc 10#5 0x40000000#32 0x80000004#32) = true := by decide
theorem test_mulh_signs : runs sAlu 0x02739533 (regPc 10#5 0#32 0x80000004#32) = true := by decide
theorem test_mulhsu : runs sAlu 0x0272a533 (regPc 10#5 0x80000000#32 0x80000004#32) = true := by decide
theorem test_mulhu : runs sAlu 0x0273b533 (regPc 10#5 0xfffffffe#32 0x80000004#32) = true := by decide
theorem test_div_overflow : runs sAlu 0x0272c533 (regPc 10#5 0x80000000#32 0x80000004#32) = true := by decide
theorem test_div_signs : runs sAlu 0x02944533 (regPc 10#5 0xfffffffe#32 0x80000004#32) = true := by decide
theorem test_divu : runs sAlu 0x0282d533 (regPc 10#5 0x19999999#32 0x80000004#32) = true := by decide
theorem test_divu_zero : runs sAlu 0x02045533 (regPc 10#5 0xffffffff#32 0x80000004#32) = true := by decide
theorem test_rem : runs sAlu 0x02b4e533 (regPc 10#5 0xfffffffe#32 0x80000004#32) = true := by decide
theorem test_rem_overflow : runs sAlu 0x0272e533 (regPc 10#5 0#32 0x80000004#32) = true := by decide
theorem test_remu : runs sAlu 0x0283f533 (regPc 10#5 0#32 0x80000004#32) = true := by decide
theorem test_remu_zero : runs sAlu 0x02047533 (regPc 10#5 5#32 0x80000004#32) = true := by decide
theorem test_add_x0 : runs sAlu 0x00840033 (regPc 0#5 0#32 0x80000004#32) = true := by decide
theorem test_beq : runs sBr 0x00528463 (fun t => t.pc == 0x80000048#32) = true := by decide
theorem test_beq_not_taken : runs sBr 0x00628463 (fun t => t.pc == 0x80000044#32) = true := by decide
theorem test_bne : runs sBr 0xfe6298e3 (fun t => t.pc == 0x80000030#32) = true := by decide
theorem test_blt : runs sBr 0x0062c663 (fun t => t.pc == 0x8000004c#32) = true := by decide
theorem test_bge : runs sBr 0x00705663 (fun t => t.pc == 0x8000004c#32) = true := by decide
theorem test_bge_not_taken : runs sBr 0x0003d663 (fun t => t.pc == 0x80000044#32) = true := by decide
theorem test_bltu : runs sBr 0xfc5360e3 (fun t => t.pc == 0x80000000#32) = true := by decide
theorem test_bgeu : runs sBr 0x0253f063 (fun t => t.pc == 0x80000060#32) = true := by decide
theorem test_bgeu_not_taken : runs sBr 0x02807063 (fun t => t.pc == 0x80000044#32) = true := by decide
theorem test_jal_back : runs sBr 0xfc1ff06f (fun t => t.pc == 0x80000000#32) = true := by decide
theorem test_jal : runs sBr 0x7ff7f0ef (regPc 1#5 0x80000044#32 0x8008003e#32) = true := by decide
theorem test_jalr_same_register : runs (sBr.setX 10#5 0x80000100#32) 0x00850567 (regPc 10#5 0x80000044#32 0x80000108#32) = true := by decide
theorem test_jalr_clears_bit_0 : runs (sBr.setX 10#5 0x80000100#32) 0x003500e7 (regPc 1#5 0x80000044#32 0x80000102#32) = true := by decide
theorem test_lr : runs sAmo 0x100522af (fun t =>
    regPc 5#5 5#32 0x80000004#32 t && t.resv == 0x100#29) = true := by decide
theorem test_sc_fails : runs sAmo 0x18b522af (fun t =>
    regPc 5#5 1#32 0x80000004#32 t && readWord t.mem 0x80000100 == 5#32) = true := by decide
theorem test_sc_succeeds : runs { sAmo with resv := 0x100#29 } 0x18b522af (fun t =>
    regPc 5#5 0#32 0x80000004#32 t && readWord t.mem 0x80000100 == 7#32 && t.resv == 0x100#29) = true := by decide
theorem test_amoswap : runs sAmo 0x08c522af (fun t =>
    regPc 5#5 5#32 0x80000004#32 t && readWord t.mem 0x80000100 == 0xfffffffe#32) = true := by decide
theorem test_amoadd : runs sAmo 0x00c522af (fun t =>
    regPc 5#5 5#32 0x80000004#32 t && readWord t.mem 0x80000100 == 3#32) = true := by decide
theorem test_amoxor : runs sAmo 0x20c522af (fun t =>
    regPc 5#5 5#32 0x80000004#32 t && readWord t.mem 0x80000100 == 0xfffffffb#32) = true := by decide
theorem test_amoand : runs sAmo 0x60c522af (fun t =>
    regPc 5#5 5#32 0x80000004#32 t && readWord t.mem 0x80000100 == 4#32) = true := by decide
theorem test_amoor : runs sAmo 0x40c522af (fun t =>
    regPc 5#5 5#32 0x80000004#32 t && readWord t.mem 0x80000100 == 0xffffffff#32) = true := by decide
theorem test_amomin : runs sAmo 0x80c522af (fun t =>
    regPc 5#5 5#32 0x80000004#32 t && readWord t.mem 0x80000100 == 0xfffffffe#32) = true := by decide
theorem test_amomax : runs sAmo 0xa0b522af (fun t =>
    regPc 5#5 5#32 0x80000004#32 t && readWord t.mem 0x80000100 == 7#32) = true := by decide
theorem test_amominu : runs sAmo 0xc0c522af (fun t =>
    regPc 5#5 5#32 0x80000004#32 t && readWord t.mem 0x80000100 == 5#32) = true := by decide
theorem test_amomaxu : runs sAmo 0xe0c522af (fun t =>
    regPc 5#5 5#32 0x80000004#32 t && readWord t.mem 0x80000100 == 0xfffffffe#32) = true := by decide
theorem test_amo_misaligned : runs (sAmo.setX 10#5 0x80000102#32) 0x00b522af
    (trapped .storeAddressMisaligned 6#32 0x00b522af#32 0x80000000#32 0x80000102#32) = true := by decide
theorem test_amo_mmio : runs (sAmo.setX 10#5 0x10000000#32) 0x00b522af
    (trapped .storeAccessFault 7#32 0x00b522af#32 0x80000000#32 0x10000000#32) = true := by decide
theorem test_lr_invalid : runs (sAmo.setX 10#5 0x20000000#32) 0x100522af
    (trapped .storeAccessFault 7#32 0x100522af#32 0x80000000#32 0x20000000#32) = true := by decide
theorem test_fence : runs s95 0x0ff0000f (fun t => t.pc == 0x80000004#32) = true := by decide
theorem test_fence_i : runs s95 0x0000100f (fun t => t.pc == 0x80000004#32) = true := by decide
theorem test_misc_mem_f2 : runs s95 0x0000200f (fun t => t.pc == 0x80000004#32) = true := by decide
theorem test_misc_mem_f7 : runs s95 0x0000700f (fun t => t.pc == 0x80000004#32) = true := by decide
theorem test_ecall_machine : runs { s95 with mstatus := 8#32 } 0x00000073 (fun t =>
    trapped .ecallFromM 11#32 0x73#32 0x80000000#32 0x80000000#32 t && t.mstatus == 0x1880#32) = true := by decide
theorem test_ecall_user : runs { s95 with mstatus := 8#32, priv := 0#2 } 0x00000073 (fun t =>
    trapped .ecallFromU 8#32 0x73#32 0x80000000#32 0x80000000#32 t && t.mstatus == 0x80#32) = true := by decide
theorem test_ebreak : runs s95 0x00100073 (fun t =>
    trapped .breakpoint 3#32 0x00100073#32 0x80000000#32 0x80000000#32 t && t.mstatus == 0x1800#32) = true := by decide
theorem test_mret_to_user : runs { s95 with mstatus := 0x80#32, mepc := 0x80000100#32 } 0x30200073 (fun t =>
    t.mstatus == 0x1888#32 && t.priv == 0#2 && t.pc == 0x80000100#32) = true := by decide
theorem test_mret_from_user : runs { s95 with mstatus := 0x1800#32, mepc := 0x80000100#32, priv := 0#2 } 0x30200073
    (fun t => t.mstatus == 0x80#32 && t.priv == 3#2 && t.pc == 0x80000100#32) = true := by decide
theorem test_wfi : runs s95 0x10500073 (fun t => t.mstatus == 8#32 && t.extraflags == 7#32 && t.cycle == 0#64
    && t.pc == 0x80000004#32 && t.events == [.returned .sleeping]) = true := by decide
theorem test_csrrw : runs { s95.setX 10#5 0x12345678#32 with mscratch := 0xaa#32 } 0x340512f3 (fun t =>
    regPc 5#5 0xaa#32 0x80000004#32 t && t.mscratch == 0x12345678#32) = true := by decide
theorem test_csrrs : runs { s95.setX 6#5 0xf#32 with mscratch := 0xf0#32 } 0x340322f3 (fun t =>
    regPc 5#5 0xf0#32 0x80000004#32 t && t.mscratch == 0xff#32) = true := by decide
theorem test_csrrc : runs { s95.setX 6#5 0xf#32 with mscratch := 0xff#32 } 0x340332f3 (fun t =>
    regPc 5#5 0xff#32 0x80000004#32 t && t.mscratch == 0xf0#32) = true := by decide
theorem test_csrrwi : runs { s95 with mscratch := 0xaa#32 } 0x340fd2f3 (fun t =>
    regPc 5#5 0xaa#32 0x80000004#32 t && t.mscratch == 0x1f#32) = true := by decide
theorem test_csrrsi : runs { s95 with mstatus := 0x1880#32 } 0x300462f3 (fun t =>
    regPc 5#5 0x1880#32 0x80000004#32 t && t.mstatus == 0x1888#32) = true := by decide
theorem test_csrrci : runs { s95 with mstatus := 0x1888#32 } 0x300472f3 (fun t =>
    regPc 5#5 0x1888#32 0x80000004#32 t && t.mstatus == 0x1880#32) = true := by decide
theorem test_csr_cycle : runs { s95 with runCycle := 9#32 } 0xc00022f3 (fun t =>
    regPc 5#5 10#32 0x80000004#32 t && t.events == [.csrWrite 0xc00#12 10#32]) = true := by decide
theorem test_csr_host : runs { s95 with replies := [⟨0x40401101#32, none, none, []⟩, quiet] } 0x301022f3 (fun t =>
    regPc 5#5 0x40401101#32 0x80000004#32 t
      && t.events == [.csrRead 0x301#12, .csrWrite 0x301#12 0x40401101#32]) = true := by decide
theorem test_illegal_word : runs s95 0xffffffff
    (trapped .illegalInstruction 2#32 0xffffffff#32 0x80000000#32 0x80000000#32) = true := by decide

/-! ## Whole steps: fetch faults, the fault policy, the ends of a call (spec/95_test_vectors.md S1 to S10, F1 to F5) -/

/-- The configuration with `FAIL_ON_ALL_FAULTS`. -/
def cfgAbort : Config := { cfg95 with failOnAllFaults := true }

/-- A core between two calls, the next one lined up. -/
def idle (us : Word) (count : Nat) : State := { s95 with call := none, calls := [⟨[], us, count⟩] }

/-- S2's second call: the timer stands at 49 and reaches the match in this call. -/
def sTimer : State :=
  { (idle 1#32 2).setPc 0x80000008#32 with
    mie := 0x80#32, mstatus := 8#32, timer := 49#64, timermatch := 50#64, cycle := 2#64 }

/-- S6's second call: the latch is set and the match is 0. -/
def sSleep : State := { idle 5#32 10 with wfi := true, mstatus := 8#32 }

theorem test_timer_interrupt : nextHas (step sTimer) (fun t => t.mcause == 0x80000007#32 && t.mepc == 0x80000008#32
    && t.mtval == 0#32 && t.mstatus == 0x1880#32 && t.mip == 0x80#32 && t.pc == 0x80000200#32 && t.cycle == 2#64
    && t.events == [.returned .normal]) = true := by decide
theorem test_sleeping : nextHas (step sSleep) (fun t => t.timer == 5#64 && t.cycle == 0#64 && t.call.isNone
    && t.extraflags == 7#32 && t.events == [.returned .sleeping]) = true := by decide
theorem test_wake_without_interrupt : nextHas (step { sSleep with timermatch := 5#64 })
    (fun t => !t.wfi && t.mip == 0x80#32 && t.call == some 10) = true := by decide
theorem test_call_edits : nextHas (step { s95 with call := none, calls := [⟨[.setX 10#5 7#32, .setExtraflags 4#32], 0#32, 1⟩] })
    (fun t => t.x 10#5 == 7#32 && t.priv == 0#2 && t.wfi && t.events == [.returned .sleeping]) = true := by decide
theorem test_loop_end_carries : nextHas (step { s95 with call := some 0, cycle := 0xfffffffe#64, runCycle := 1#32 })
    (fun t => t.cycle == 0x100000001#64 && t.events == [.returned .normal]) = true := by decide
theorem test_fetch_misaligned : nextHas (step (s95.setPc 0x80000002#32))
    (trapped .instrAddressMisaligned 0#32 0#32 0x80000002#32 0x80000002#32) = true := by decide
theorem test_fetch_from_mmio : nextHas (step (s95.setPc 0x10000000#32))
    (trapped .instrAccessFault 1#32 0#32 0x10000000#32 0x10000000#32) = true := by decide
theorem test_abort : runs { s95 with cfg := cfgAbort } 0xffffffff (fun t => t.status == .aborted .illegalInstruction
    && t.pc == 0x80000000#32 && t.mepc == 0#32 && t.mcause == 0#32 && t.cycle == 0#64 && t.priv == 3#2
    && t.events == [.returned (.aborted .illegalInstruction)]) = true := by decide
theorem test_csr_hook_writes_ram :
    runs { s95 with replies := [⟨0#32, none, none, [(0x80000100, 9#8), (0x20000000, 1#8)]⟩, quiet] } 0x301022f3
    (fun t => t.mem == [(0x80000000, 0xf3#8), (0x80000001, 0x22#8), (0x80000002, 0x10#8),
      (0x80000003, 0x30#8), (0x80000100, 9#8)]) = true := by decide
theorem test_mmio_hook_moves_match :
    runs { s95.setX 10#5 0x10000000#32 with replies := [⟨5#32, some 7#64, some 9#64, []⟩] } 0x00054603
      (fun t => t.x 12#5 == 5#32 && t.events == [.mmioLoad 0x10000000#32] && t.timer == 7#64 && t.timermatch == 9#64) = true := by decide

/-! ## Witnesses: states and operands that meet the hypotheses of each statement -/

theorem witness_DecodeOfEncodeIsIdentity : (Instr.addi 1#5 2#5 0xfffff800#32).WellFormed ∧ (Instr.sw 1#5 2#5 2047#32).WellFormed
    ∧ (Instr.bge 31#5 0#5 0xfffff000#32).WellFormed ∧ (Instr.lui 31#5 0xfffff000#32).WellFormed
    ∧ (Instr.jal 1#5 0xffffe#32).WellFormed ∧ (Instr.scW 1#5 2#5 3#5 true false).WellFormed
    ∧ (Instr.fence 8#4 15#4 1#4).WellFormed ∧ Instr.mret.WellFormed
    ∧ (Instr.csrrwi 0#5 31#5 0xfff#12).WellFormed := by decide

theorem witness_DecodedInstructionsAreWellFormed : decode 0x80000063#32 = .ok (.beq 0#5 0#5 0xfffff000#32)
    ∧ decode 0x7ffff0ef#32 = .ok (.jal 1#5 0xffffe#32) := by decide

theorem witness_DecodeAgreesWithOpcodeTable_legal : decode 0x42000033#32 = .ok (.mul 0#5 0#5 0#5)
    ∧ opcodeTable.filter (fun r => rowMatches r 0x42000033#32) = [⟨"MUL", 0x02000033#32, 0x0200707f#32⟩] := by decide

theorem witness_DecodeAgreesWithOpcodeTable_illegal : decode 0x2800202f#32 = .error .amoFunct5
    ∧ ∀ r ∈ opcodeTable, rowMatches r 0x2800202f#32 = false := by decide

theorem witness_IgnoredFieldsDoNotMatter : decode 0x00000067#32 = .ok (.jalr 0#5 0#5 0#32)
    ∧ agreeBut (ignoredBits (.jalr 0#5 0#5 0#32)) 0x00000067#32 0x00007067#32
    ∧ decode 0x30200073#32 = .ok .mret ∧ agreeBut (ignoredBits .mret) 0x30200073#32 0xf02f8f73#32
    ∧ decode 0x00000033#32 = .ok (.add 0#5 0#5 0#5)
    ∧ agreeBut (ignoredBits (.add 0#5 0#5 0#5)) 0x00000033#32 0xbc000033#32 := by
  refine ⟨by decide, rfl, by decide, rfl, by decide, rfl⟩

/-- A step inside a call whose instruction is a store. -/
def sStep : State := withWord sStore 0x80000000 0x00b52023#32

theorem witness_StepKeepsInvariant : sStep.Inv ∧ (∃ t, step sStep = .next t ∧ (t.mem != []) = true) :=
  ⟨⟨⟨by decide, by decide⟩, by decide, by decide⟩, next_of_nextHas (by decide)⟩

theorem witness_StepKeepsInvariant_asleep : sSleep.Inv ∧ (∃ t, step sSleep = .next t ∧ t.wfi = true) :=
  ⟨⟨⟨by decide, by decide⟩, by decide, by decide⟩, next_of_nextHas (by decide)⟩

theorem witness_StepKeepsConfiguration : (∃ t, step sStep = .next t ∧ (t.mem != []) = true)
    ∧ (∃ t, step sTimer = .next t ∧ (t.pc == 0x80000200#32) = true)
    ∧ ∃ t, step { s95 with call := some 0 } = .next t ∧ t.call.isNone = true :=
  ⟨next_of_nextHas (by decide), next_of_nextHas (by decide), next_of_nextHas (by decide)⟩

/-- The hypotheses that every statement about an attempt shares. -/
abbrev inAttempt (s : State) (n : Nat) : Prop := s.cfg.ok = true ∧ s.status = .running ∧ s.call = some (n + 1)

/-- The hypotheses that every statement about the start of a call shares. -/
abbrev atCall (s : State) : Prop := s.cfg.ok = true ∧ s.status = .running ∧ s.call = none

/-- The pc is an aligned address of RAM. -/
abbrev pcInRam (s : State) : Prop := (s.pc - s.cfg.ramBase).toNat < s.cfg.ramSize ∧ s.pc.toNat % 4 = 0

theorem witness_StepRunsDecodedInstruction : inAttempt sStep 0 ∧ pcInRam sStep ∧ decode (FetchedWord sStep)
    = .ok (.sw 10#5 11#5 0#32)
    ∧ (sStep.pc - sStep.cfg.ramBase).toNat + 4 ≤ sStep.cfg.ramSize := by decide

/-- The last word of RAM. -/
def sEnd : State := (withWord s95 0x8000fffc 0x00000013#32).setPc 0x8000fffc#32

theorem witness_StepRunsDecodedInstruction_last_word : inAttempt sEnd 0 ∧ pcInRam sEnd
    ∧ decode (FetchedWord sEnd) = .ok (.addi 0#5 0#5 0#32)
    ∧ (sEnd.pc - sEnd.cfg.ramBase).toNat + 4 = sEnd.cfg.ramSize := by decide

/-- A RAM base that is no multiple of 4, which R7 allows. -/
def cfgOdd : Config := { cfg95 with ramBase := 0x80000001#32 }

/-- R75, R79: with such a base RAM is fetched from and stored to as ever. -/
theorem test_unaligned_base : cfgOdd.ok = true
    ∧ runs { sStore with cfg := cfgOdd, pc := 0x80000004#32 } 0x00b52023
      (fun t => readWord t.mem 0x80000100 == 0x123456ab#32 && t.pc == 0x80000008#32 && t.draws == 0) = true
    ∧ runs { s95 with cfg := cfgOdd, pc := 0x80010000#32 } 0x00000013 (fun t => t.pc == 0x80000008#32) = true := by decide

/-- The fetch whose first byte alone lies in RAM: the opcode byte of LUI, then three free bytes. -/
def sPastEnd : State :=
  { s95 with cfg := cfgOdd, pc := 0x80010000#32, mem := writeByte [] 0x80010000 0x37#8 }

theorem lui_of_low_byte (b3 b2 b1 : Byte) : ∃ i, decode (b3 ++ b2 ++ b1 ++ 0x37#8) = .ok i := by
  have h : fOpcode (b3 ++ b2 ++ b1 ++ 0x37#8) = 0x37#7 := by
    unfold fOpcode
    ext k hk
    simp only [BitVec.getElem_extractLsb', Nat.zero_add, BitVec.getLsbD_append]
    rw [if_pos (by omega)]
    interval_cases k <;> simp
  refine ⟨.lui (fRd (b3 ++ b2 ++ b1 ++ 0x37#8)) (immU (b3 ++ b2 ++ b1 ++ 0x37#8)), ?_⟩
  unfold decode
  rw [h]
  rfl

theorem witness_StepRunsDecodedInstruction_past_end : inAttempt sPastEnd 0 ∧ pcInRam sPastEnd
    ∧ ¬(sPastEnd.pc - sPastEnd.cfg.ramBase).toNat + 4 ≤ sPastEnd.cfg.ramSize
    ∧ ∃ i, decode (FetchedWord sPastEnd) = .ok i :=
  ⟨by decide, by decide, by decide, lui_of_low_byte _ _ _⟩

theorem witness_FetchFaultsTrap : inAttempt (s95.setPc 0x80010000#32) 0
    ∧ (s95.setPc 0x80010000#32).cfg.failOnAllFaults = false
    ∧ cfg95.ramSize ≤ (0x80010000#32 - cfg95.ramBase).toNat ∧ cfg95.ramSize ≤ (0x7fffffff#32 - cfg95.ramBase).toNat
    ∧ (0x8000fffe#32 - cfg95.ramBase).toNat < cfg95.ramSize ∧ (0x8000fffe#32 : Word).toNat % 4 ≠ 0 := by decide

/-- A core about to attempt an illegal word. -/
def sIllegal : State := withWord s95 0x80000000 0xffffffff#32

theorem witness_IllegalWordsTrap : inAttempt sIllegal 0 ∧ sIllegal.cfg.failOnAllFaults = false ∧ pcInRam sIllegal
    ∧ (∀ r ∈ opcodeTable, rowMatches r (FetchedWord sIllegal) = false)
    ∧ sIllegal.cfg.mtvalOnIllegal = .pc := by decide

theorem witness_IllegalWordsTrap_insn : nextHas (step { sIllegal with cfg := { cfg95 with mtvalOnIllegal := .insn } })
    (trapped .illegalInstruction 2#32 0xffffffff#32 0x80000000#32 0xffffffff#32) = true := by decide

theorem witness_FetchAndDecodeFaultsAbort : inAttempt { sIllegal with cfg := cfgAbort } 0 ∧ cfgAbort.failOnAllFaults = true
    ∧ pcInRam { sIllegal with cfg := cfgAbort }
    ∧ cfgAbort.ramSize ≤ (0x80010000#32 - cfgAbort.ramBase).toNat
    ∧ (0x80000002#32 - cfgAbort.ramBase).toNat < cfgAbort.ramSize ∧ (0x80000002#32 : Word).toNat % 4 ≠ 0 := by decide

theorem witness_EndedRunIsStuck : ({ s95 with status := .aborted .breakpoint } : State).cfg.ok = true
    ∧ ({ s95 with status := .aborted .breakpoint } : State).status = .aborted .breakpoint
    ∧ ({ s95 with status := .hostStopped 1#32 } : State).status = .hostStopped 1#32 := by decide

theorem witness_LoopEndCommitsAndReturns : ({ s95 with call := some 0 } : State).cfg.ok = true
    ∧ ({ s95 with call := some 0 } : State).status = .running ∧ ({ s95 with call := some 0 } : State).call = some 0 := by
  decide

theorem witness_CommitAddsAttempts : 3 < 2 ^ 32 ∧ 2 ^ 32 - 1 < 2 ^ 32
    ∧ committed 0xfffffffe#64 (0xfffffffe#32 + 3#32) = 0x100000001#64 := by decide

theorem witness_SleepingCoreExecutesNothing : atCall sSleep
    ∧ ((sSleep.nextCall.edits.foldl State.edit sSleep.popCall).tick sSleep.nextCall.elapsedUs).wfi = true := by decide

/-- The state at the interrupt check of the next call. -/
def atCheck (s : State) : State := (s.nextCall.edits.foldl State.edit s.popCall).tick s.nextCall.elapsedUs

theorem witness_TimerInterruptTaken : atCall sTimer ∧ (atCheck sTimer).wfi = false ∧ (atCheck sTimer).mip.getLsbD 7 = true
    ∧ (atCheck sTimer).mie.getLsbD 7 = true ∧ (atCheck sTimer).mstatus.getLsbD 3 = true := by decide

theorem witness_CallEntersLoop : atCall { sTimer with mie := 0#32 }
    ∧ (atCheck { sTimer with mie := 0#32 }).wfi = false
    ∧ (atCheck { sTimer with mie := 0#32 }).mie.getLsbD 7 = false
    ∧ (atCheck { sTimer with mstatus := 0#32 }).mstatus.getLsbD 3 = false
    ∧ (atCheck { sTimer with timermatch := 51#64 }).mip.getLsbD 7 = false := by decide

theorem witness_TrapThenMretRestores_EbreakTraps : s95.cfg.failOnAllFaults = false
    ∧ ({ s95 with cfg := cfgAbort } : State).cfg.failOnAllFaults = true := by decide

theorem witness_EcallTraps : ({ s95 with priv := 0#2 } : State).priv = 0#2 ∧ s95.priv ≠ 0#2
    ∧ ({ s95 with priv := 1#2 } : State).priv ≠ 0#2 := by decide

theorem witness_MretReturns : 0x10200073#32 &&& 0x0ff0707f#32 = 0x00200073#32
    ∧ 0xf02f8f73#32 &&& 0x0ff0707f#32 = 0x00200073#32 := by decide

theorem witness_FencesOnlyAdvancePc : (Instr.miscMemF7 ∈ [.fence 1#4 2#4 3#4, .fenceI, .miscMemF2, .miscMemF3, .miscMemF4, .miscMemF5,
    .miscMemF6, .miscMemF7]) := by decide

theorem witness_CsrInstructionsOnCoreCsrs : ((0x300#12, .mstatus) ∈ coreCsrTable) ∧ ((0x305#12, .mtvec) ∈ coreCsrTable)
    ∧ ((0x344#12, .mip) ∈ coreCsrTable) := by decide

theorem witness_CsrInstructionsOnHostCsrs : (∀ k, (0x301#12, k) ∉ coreCsrTable) ∧ (0x301#12 : CsrIx) ≠ 0xc00#12
    ∧ (∀ k, (0xfff#12, k) ∉ coreCsrTable) ∧ (0xfff#12 : CsrIx) ≠ 0xc00#12 := by
  refine ⟨fun k => ?_, by decide, fun k => ?_, by decide⟩ <;> cases k <;> decide

theorem witness_DivisionAndProductIdentities : (3#5 : RegIx) ≠ 0#5
    ∧ (∃ q, exec (.div 3#5 8#5 9#5) sAlu = .next q ∧ (q.x 3#5 == 0xfffffffe#32) = true)
    ∧ (∃ r, exec (.rem 3#5 8#5 9#5) sAlu = .next r ∧ (r.x 3#5 == 1#32) = true)
    ∧ (∃ q, exec (.divu 3#5 8#5 9#5) sAlu = .next q ∧ (q.x 3#5 == 0#32) = true)
    ∧ (∃ r, exec (.remu 3#5 8#5 9#5) sAlu = .next r ∧ (r.x 3#5 == 5#32) = true)
    ∧ (∃ h, exec (.mulhu 3#5 8#5 9#5) sAlu = .next h ∧ (h.x 3#5 == 4#32) = true)
    ∧ (∃ l, exec (.mul 3#5 8#5 9#5) sAlu = .next l ∧ (l.x 3#5 == 0xfffffff6#32) = true)
    ∧ sAlu.x 9#5 ≠ 0#32 ∧ ¬(sAlu.x 8#5 = 0x80000000#32 ∧ sAlu.x 9#5 = 0xffffffff#32) :=
  ⟨by decide, next_of_nextHas (by decide), next_of_nextHas (by decide), next_of_nextHas (by decide),
    next_of_nextHas (by decide), next_of_nextHas (by decide), next_of_nextHas (by decide), by decide, by decide⟩

/-- The sentinels of R219: a zero divisor and the signed overflow. -/
theorem witness_DivideResults_sentinels : divSigned 5#32 0#32 = 0xffffffff#32 ∧ divUnsigned 5#32 0#32 = 0xffffffff#32
    ∧ remSigned 5#32 0#32 = 5#32 ∧ remUnsigned 5#32 0#32 = 5#32
    ∧ divSigned 0x80000000#32 0xffffffff#32 = 0x80000000#32 ∧ remSigned 0x80000000#32 0xffffffff#32 = 0#32 := by decide

theorem witness_AccessRegions : ((Width.half, 2) ∈ [(Width.byte, 1), (.half, 2), (.word, 4)]) ∧ cfg95.ok = true ∧ cfg95.ramTailGuard = false
    ∧ classify cfg95 0x80000001#32 .half = .misaligned ∧ classify cfg95 0x10000002#32 .word = .misaligned
    ∧ classify cfg95 0x80000000#32 .word = .ram 0#32 ∧ classify cfg95 0x8000fffc#32 .word = .ram 0xfffc#32
    ∧ classify cfg95 0x8000fffe#32 .half = .ram 0xfffe#32 ∧ classify cfg95 0x8000ffff#32 .byte = .ram 0xffff#32
    ∧ classify cfg95 0x10000000#32 .word = .mmio ∧ classify cfg95 0x11ffffff#32 .byte = .mmio
    ∧ classify cfg95 0x0fffffff#32 .byte = .invalid ∧ classify cfg95 0x12000000#32 .byte = .invalid
    ∧ classify cfg95 0x7fffffff#32 .byte = .invalid ∧ classify cfg95 0x80010000#32 .byte = .invalid := by decide

/-- The configuration with `RAM_TAIL_GUARD`. -/
def cfgTail : Config := { cfg95 with ramTailGuard := true }

theorem witness_TailGuardRefusesLastBytes : cfgTail.ok = true ∧ cfgTail.ramTailGuard = true
    ∧ cfgTail.ramSize - 3 ≤ (0x8000fffd#32 - cfgTail.ramBase).toNat ∧ classify cfgTail 0x8000fffd#32 .byte = .invalid
    ∧ (0x8000fffc#32 - cfgTail.ramBase).toNat < cfgTail.ramSize - 3
    ∧ classify cfgTail 0x8000fffc#32 .word = .ram 0xfffc#32
    ∧ cfgTail.ramSize ≤ (0x80010000#32 - cfgTail.ramBase).toNat ∧ classify cfgTail 0x80010000#32 .word = .invalid
    ∧ cfgTail.ramSize ≤ (0x10000000#32 - cfgTail.ramBase).toNat ∧ classify cfgTail 0x10000000#32 .word = .mmio := by
  decide

theorem witness_RamLoadResults : classify sLoad.cfg (sLoad.x 10#5 + 3#32) .byte = .ram 0x103#32
    ∧ classify sLoad.cfg (sLoad.x 10#5 + 2#32) .half = .ram 0x102#32
    ∧ classify sLoad.cfg (sLoad.x 10#5 + 0#32) .word = .ram 0x100#32 := by decide

theorem witness_LoadFaults : ((Instr.lh 5#5 10#5 1#32, Width.half) ∈ [(.lb 5#5 10#5 1#32, .byte),
      (.lbu 5#5 10#5 1#32, .byte), (.lh 5#5 10#5 1#32, .half), (.lhu 5#5 10#5 1#32, .half), (.lw 5#5 10#5 1#32, .word)])
    ∧ classify sLoad.cfg (sLoad.x 10#5 + 1#32) .half = .misaligned
    ∧ classify sLoad.cfg (sLoad.x 0#5 + 2#32) .half = .invalid ∧ sLoad.cfg.failOnAllFaults = false
    ∧ classify cfgAbort (sLoad.x 10#5 + 1#32) .half = .misaligned
    ∧ classify cfgAbort (sLoad.x 0#5 + 2#32) .half = .invalid ∧ cfgAbort.failOnAllFaults = true := by decide

/-- A base register that points at the MMIO window. -/
def sMmio : State := (s95.setX 10#5 0x11fffffc#32).setX 11#5 0x5555#32

theorem witness_MmioLoadResults : classify sMmio.cfg (sMmio.x 10#5 + 0#32) .word = .mmio
    ∧ classify sMmio.cfg (sMmio.x 10#5 + 3#32) .byte = .mmio
    ∧ classify sMmio.cfg (sMmio.x 10#5 + 2#32) .half = .mmio
    ∧ ((Instr.lw 0#5 10#5 0#32, Width.word) ∈ [(.lb 0#5 10#5 0#32, .byte), (.lbu 0#5 10#5 0#32, .byte),
      (.lh 0#5 10#5 0#32, .half), (.lhu 0#5 10#5 0#32, .half), (.lw 0#5 10#5 0#32, .word)]) := by decide

theorem witness_MmioStoreResults : classify sMmio.cfg (sMmio.x 10#5 + 0#32) .word = .mmio
    ∧ ((Instr.sw 10#5 11#5 0#32, Width.word) ∈ [(.sb 10#5 11#5 0#32, .byte), (.sh 10#5 11#5 0#32, .half),
      (.sw 10#5 11#5 0#32, .word)])
    ∧ sMmio.reply.value = 0#32
    ∧ ({ sMmio with replies := [⟨1#32, none, none, []⟩] } : State).reply.value ≠ 0#32 := by decide

theorem witness_RamStoreResults : classify sStore.cfg (sStore.x 10#5 + 1#32) .byte = .ram 0x101#32
    ∧ classify sStore.cfg (sStore.x 10#5 + 2#32) .half = .ram 0x102#32
    ∧ classify sStore.cfg (sStore.x 10#5 + 0#32) .word = .ram 0x100#32 := by decide

theorem witness_StoreFaults : ((Instr.sh 10#5 11#5 1#32, Width.half) ∈ [(.sb 10#5 11#5 1#32, .byte),
      (.sh 10#5 11#5 1#32, .half), (.sw 10#5 11#5 1#32, .word)])
    ∧ classify sStore.cfg (sStore.x 10#5 + 1#32) .half = .misaligned
    ∧ classify sStore.cfg (sStore.x 0#5 + 4#32) .half = .invalid ∧ sStore.cfg.failOnAllFaults = false
    ∧ classify cfgAbort (sStore.x 10#5 + 1#32) .half = .misaligned
    ∧ classify cfgAbort (sStore.x 0#5 + 4#32) .half = .invalid ∧ cfgAbort.failOnAllFaults = true := by decide

/-- E4 and E5 of spec/95_test_vectors.md: a word, and a byte, stored and loaded back. -/
theorem witness_StoreThenLoadGivesValue : (12#5 : RegIx) ≠ 0#5
    ∧ nextHas (exec (.sw 10#5 11#5 0#32) sStore)
        (fun t => nextHas (exec (.lw 12#5 10#5 0#32) t) (fun u => u.x 12#5 == 0x123456ab#32)) = true
    ∧ nextHas (exec (.sb 10#5 11#5 0#32) sStore)
        (fun t => nextHas (exec (.lbu 12#5 10#5 0#32) t) (fun u => u.x 12#5 == 0xab#32)) = true := by decide

theorem witness_LoadReserved_StoreConditional_AtomicReadModifyWrite : classify sAmo.cfg (sAmo.x 10#5) .word = .ram 0x100#32
    ∧ ({ sAmo with resv := 0x100#29 } : State).resv = (0x100#32 : Word).setWidth 29
    ∧ sAmo.resv ≠ (0x100#32 : Word).setWidth 29 := by decide

theorem witness_AtomicFaults : Instr.amoaddW 5#5 10#5 11#5 true false ∈ [.lrW 5#5 10#5 true false,
      .scW 5#5 10#5 11#5 true false, .amoswapW 5#5 10#5 11#5 true false, .amoaddW 5#5 10#5 11#5 true false,
      .amoxorW 5#5 10#5 11#5 true false, .amoandW 5#5 10#5 11#5 true false, .amoorW 5#5 10#5 11#5 true false,
      .amominW 5#5 10#5 11#5 true false, .amomaxW 5#5 10#5 11#5 true false, .amominuW 5#5 10#5 11#5 true false,
      .amomaxuW 5#5 10#5 11#5 true false]
    ∧ (0x80000102#32 : Word).toNat % 4 ≠ 0
    ∧ (0x10000000#32 : Word).toNat % 4 = 0 ∧ classify cfg95 0x10000000#32 .word = .mmio
    ∧ (0x80010000#32 : Word).toNat % 4 = 0 ∧ classify cfg95 0x80010000#32 .word = .invalid := by decide

/-- An LR.W, then an SC.W at the same word, and one at the other word that x7 points at. -/
theorem witness_LrScPair : classify sAmo.cfg (sAmo.x 10#5) .word = .ram 0x100#32
    ∧ nextHas (exec (.lrW 5#5 10#5 false false) (sAmo.setX 7#5 0x80000104#32)) (fun t =>
      t.x 10#5 == sAmo.x 10#5
        && nextHas (exec (.scW 6#5 10#5 11#5 false false) t)
          (fun u => u.x 6#5 == 0#32 && readWord u.mem 0x80000100 == 7#32)
        && classify t.cfg (t.x 7#5) .word == .ram 0x104#32
        && nextHas (exec (.scW 6#5 7#5 11#5 false false) t) (fun u => u.x 6#5 == 1#32 && u.mem == sAmo.mem)) = true
    ∧ (0x104#32 : Word).toNat % 2 ^ 29 ≠ (0x100#32 : Word).toNat % 2 ^ 29 := by decide

theorem witness_wholeMachineRules : (∃ t, exec (.lrW 5#5 10#5 true true) sAmo = .next t ∧ (t.resv != sAmo.resv) = true)
    ∧ (∃ t, exec .wfi sAmo = .next t ∧ t.wfi = true)
    ∧ (∃ t, exec .mret { sAmo with mstatus := 0x80#32 } = .next t ∧ (t.priv == 0#2) = true)
    ∧ (∃ t, exec .ebreak { sAmo with priv := 0#2 } = .next t ∧ (t.priv == 3#2 && t.mepc == sAmo.pc) = true)
    ∧ ∃ t, exec (.addi 1#5 0#5 1#32) { sAmo with mcause := 0x80000007#32 } = .next t
      ∧ (t.mcause == 0x80000007#32) = true :=
  ⟨next_of_nextHas (by decide), next_of_nextHas (by decide), next_of_nextHas (by decide), next_of_nextHas (by decide),
    next_of_nextHas (by decide)⟩

/-- The same instruction in machine and in user mode (both hypotheses of the privilege statement). -/
theorem witness_PrivilegeRestrictsNothing : (∃ t, exec (.csrrw 5#5 11#5 0x340#12) sAmo = .next t ∧ (t.mscratch == 7#32) = true)
    ∧ (∃ u, exec (.csrrw 5#5 11#5 0x340#12) { sAmo with priv := 0#2 } = .next u ∧ (u.mscratch == 7#32) = true)
    ∧ Instr.csrrw 5#5 11#5 0x340#12 ≠ .ecall :=
  ⟨next_of_nextHas (by decide), next_of_nextHas (by decide), by decide⟩

/-- How a program comes to run from reset: the host's next call loads it and enters the loop (log entry 1). -/
theorem witness_reset_runs : nextHas (step { State.reset with calls := [⟨[.writeRam 0x80000000 0x13#8], 0#32, 1⟩] })
    (fun t => t.call == some 1 && nextHas (step t) (fun u => u.pc == 0x80000004#32)) = true := by decide

theorem witness_NoInterruptInsideCall : (∃ t, exec .ebreak sAmo = .next t ∧ (t.mcause == 3#32) = true)
    ∧ (∀ rd rs1 n, Instr.ebreak ≠ .csrrw rd rs1 n ∧ Instr.ebreak ≠ .csrrs rd rs1 n ∧ Instr.ebreak ≠ .csrrc rd rs1 n)
    ∧ ∀ rd z n, Instr.ebreak ≠ .csrrwi rd z n ∧ Instr.ebreak ≠ .csrrsi rd z n ∧ Instr.ebreak ≠ .csrrci rd z n := by
  refine ⟨next_of_nextHas (by decide), fun _ _ _ => ⟨?_, ?_, ?_⟩, fun _ _ _ => ⟨?_, ?_, ?_⟩⟩ <;> intro h <;> cases h

end Sys2Proof.Tests
end

section
/-!
SUPPORT. What the meaning of an instruction can answer, said once for all of `exec`: it always answers a next state
(spec/00_scope.md R11, spec/60_exceptions.md R310), and the state is one of the few in `InstrEffect`. A fact about every
instruction is then one case analysis over these effects.
-/

namespace Sys2Proof.Machine

/-- The instruction is one of the six that access a CSR (R277 to R282). -/
def accessesCsr : Instr → Bool
  | .csrrw _ _ _ | .csrrs _ _ _ | .csrrc _ _ _ | .csrrwi _ _ _ | .csrrsi _ _ _ | .csrrci _ _ _ => true
  | _ => false

/-- The effects an instruction can have on a state: every state `exec` answers is one of these. -/
inductive InstrEffect (s : State) : Instr → State → Prop
  /-- `x[rd] <- v ; pc <- pc + 4` (R11) -/
  | retire {i : Instr} (rd : RegIx) (v : Word) : InstrEffect s i (s.retire rd v)
  /-- `pc <- p`: a branch or a fence (R230, R270) -/
  | setPc {i : Instr} (p : Word) : InstrEffect s i (s.setPc p)
  /-- `x[rd] <- v ; pc <- p`: a jump (R237, R238) -/
  | jump {i : Instr} (rd : RegIx) (v p : Word) : InstrEffect s i ((s.setX rd v).setPc p)
  /-- an exception and nothing else (R310) -/
  | raise {i : Instr} (e : Exc) (tval : Word) : InstrEffect s i (s.raise e tval)
  /-- a load answered by the MMIO hook (R82) -/
  | mmioLoad {i : Instr} (a : Word) (rd : RegIx) :
      InstrEffect s i ((s.mmioHook (.mmioLoad a)).retire rd s.reply.value)
  /-- a store to RAM (R81) -/
  | ramStore {i : Instr} (a off : Word) (w : Width) (v : Word) (h : classify s.cfg a w = .ram off) :
      InstrEffect s i ({ s with mem := ramStore s.mem a w v }.advance)
  /-- a store the MMIO hook receives (R83) -/
  | mmioStore {i : Instr} (a v : Word) : InstrEffect s i (s.mmioStore a v)
  /-- an atomic that writes RAM and a register (R253 to R262) -/
  | atomicStore {i : Instr} (a off v : Word) (rd : RegIx) (old : Word) (h : classify s.cfg a .word = .ram off) :
      InstrEffect s i ({ s with mem := writeWord s.mem a.toNat v }.retire rd old)
  /-- LR.W reserves and reads (R252) -/
  | reserve (rd rs1 : RegIx) (aq rl : Bool) (off v : Word) :
      InstrEffect s (.lrW rd rs1 aq rl) ({ s with resv := resvOf off }.retire rd v)
  /-- a CSR is read, then written (R276 to R282) -/
  | csrAccess {i : Instr} (hi : accessesCsr i = true) (n : CsrIx) (new : Word) (rd : RegIx) (old : Word) :
      InstrEffect s i (((s.csrRead n).csrWrite n new).retire rd old)
  /-- the return from a trap (R275) -/
  | trapReturn : InstrEffect s .mret s.trapReturn
  /-- WFI sleeps (R283) -/
  | sleep (p : Word) :
      InstrEffect s .wfi ({ s with mstatus := s.mstatus ||| 0x8#32, wfi := true, pc := p }.sleep)

variable {i : Instr} {s : State}

/-! ### The shared operations answer effects -/

theorem load_effect (w : Width) (sg : Bool) (rd : RegIx) (a : Word) :
    ∃ t, s.load w sg rd a = .next t ∧ InstrEffect s i t := by
  obtain ⟨-, h⟩ | ⟨-, -, h⟩ | ⟨-, h⟩ | ⟨-, h⟩ := load_cases s w sg rd a
  · exact ⟨_, h, .raise _ _⟩
  · exact ⟨_, h, .retire _ _⟩
  · exact ⟨_, h, .mmioLoad _ _⟩
  · exact ⟨_, h, .raise _ _⟩

theorem store_effect (w : Width) (a v : Word) : ∃ t, s.store w a v = .next t ∧ InstrEffect s i t := by
  obtain ⟨-, h⟩ | ⟨off, hr, h⟩ | ⟨-, h⟩ | ⟨-, h⟩ := store_cases s w a v
  · exact ⟨_, h, .raise _ _⟩
  · exact ⟨_, h, .ramStore a off w v hr⟩
  · exact ⟨_, h, .mmioStore _ _⟩
  · exact ⟨_, h, .raise _ _⟩

/-- An atomic raises, or has the effect it has on its RAM offset (R250). -/
theorem atomic_effect (a : Word) (f : Word → State)
    (hf : ∀ off, classify s.cfg a .word = .ram off → InstrEffect s i (f off)) :
    ∃ t, s.atomic a f = .next t ∧ InstrEffect s i t := by
  obtain ⟨-, h⟩ | ⟨off, hr, h⟩ | ⟨-, h⟩ := atomic_cases s a f
  · exact ⟨_, h, .raise _ _⟩
  · exact ⟨_, h, hf off hr⟩
  · exact ⟨_, h, .raise _ _⟩

theorem amo_effect (op : Word → Word → Word) (rd rs1 rs2 : RegIx) :
    ∃ t, s.amo op rd rs1 rs2 = .next t ∧ InstrEffect s i t :=
  atomic_effect _ _ fun off hr => .atomicStore _ off _ _ _ hr

theorem execLrW_effect (rd rs1 : RegIx) (aq rl : Bool) :
    ∃ t, execLrW rd rs1 aq rl s = .next t ∧ InstrEffect s (.lrW rd rs1 aq rl) t :=
  atomic_effect _ _ fun off _ => .reserve rd rs1 aq rl off _

/-- SC.W stores, or only retires (R253). -/
theorem execScW_effect (rd rs1 rs2 : RegIx) (aq rl : Bool) :
    ∃ t, execScW rd rs1 rs2 aq rl s = .next t ∧ InstrEffect s i t := by
  refine atomic_effect _ _ fun off hr => ?_
  split
  · exact .atomicStore _ off _ _ _ hr
  · exact .retire _ _

/-! ### Every instruction answers an effect -/

/-- What an instruction can do: it answers a next state, and that state is one of `InstrEffect`. -/
theorem exec_effect (i : Instr) (s : State) : Answers i s (InstrEffect s i) := by
  cases i with
  | lui | auipc => exact ⟨_, rfl, .retire _ _⟩
  | lb | lh | lw | lbu | lhu => exact load_effect _ _ _ _
  | sb | sh | sw => exact store_effect _ _ _
  | addi | slti | sltiu | xori | ori | andi | slli | srli | srai => exact ⟨_, rfl, .retire _ _⟩
  | add | sub | sll | slt | sltu | xor | or | and | srl | sra => exact ⟨_, rfl, .retire _ _⟩
  | mul | mulh | mulhsu | mulhu | div | divu | rem | remu => exact ⟨_, rfl, .retire _ _⟩
  | beq | bne | blt | bge | bltu | bgeu => exact ⟨_, rfl, .setPc _⟩
  | jal | jalr => exact ⟨_, rfl, .jump _ _ _⟩
  | lrW rd rs1 aq rl => exact execLrW_effect rd rs1 aq rl
  | scW rd rs1 rs2 aq rl => exact execScW_effect rd rs1 rs2 aq rl
  | amoaddW | amoxorW | amoandW | amoorW => exact amo_effect _ _ _ _
  | amoswapW rd rs1 rs2 => exact amo_effect (fun _ v => v) rd rs1 rs2
  | amominW rd rs1 rs2 => exact amo_effect (fun old v => if ltSigned v old then v else old) rd rs1 rs2
  | amomaxW rd rs1 rs2 => exact amo_effect (fun old v => if ltSigned old v then v else old) rd rs1 rs2
  | amominuW rd rs1 rs2 => exact amo_effect (fun old v => if ltUnsigned v old then v else old) rd rs1 rs2
  | amomaxuW rd rs1 rs2 => exact amo_effect (fun old v => if ltUnsigned old v then v else old) rd rs1 rs2
  | fence | fenceI | miscMemF2 | miscMemF3 | miscMemF4 | miscMemF5 | miscMemF6 | miscMemF7 =>
    exact ⟨_, rfl, .setPc _⟩
  | ecall | ebreak => exact ⟨_, rfl, .raise _ _⟩
  | mret => exact ⟨_, rfl, .trapReturn⟩
  | wfi => exact ⟨_, rfl, .sleep _⟩
  | csrrw | csrrs | csrrc | csrrwi | csrrsi | csrrci => exact ⟨_, rfl, .csrAccess rfl _ _ _ _⟩

/-- The state an instruction answered is one of its effects. -/
theorem effect_of_exec {t : State} (h : exec i s = .next t) : InstrEffect s i t := by
  obtain ⟨u, hu, heff⟩ := exec_effect i s
  obtain rfl : u = t := by simpa [hu] using h
  exact heff

/-- Settles O56: the meaning of each instruction answers one of its effects. -/
theorem everyInstructionAnswers : Obligations.EveryInstructionAnswers := by
  intro i s
  obtain ⟨t, ht, -⟩ := exec_effect i s
  exact ⟨t, ht⟩

end Sys2Proof.Machine
end

section
/-!
SUPPORT. The configuration is fixed for the run (spec/00_scope.md R8): no effect of an instruction, no start of a step call
and no exception changes it.
-/

namespace Sys2Proof.Machine

variable (s : State)

@[simp] theorem State.sleep_cfg : s.sleep.cfg = s.cfg := by
  unfold State.sleep
  split <;> simp

@[simp] theorem State.mmioStore_cfg (a v : Word) : (s.mmioStore a v).cfg = s.cfg := by
  obtain ⟨-, h⟩ | ⟨-, h⟩ := mmioStore_cases s a v <;> simp [h]

@[simp] theorem State.csrRead_cfg (n : CsrIx) : (s.csrRead n).cfg = s.cfg := (csrRead_keeps s n).1

@[simp] theorem State.csrWrite_cfg (n : CsrIx) (v : Word) : (s.csrWrite n v).cfg = s.cfg := (csrWrite_keeps s n v).1

@[simp] theorem State.drawFetch_cfg : s.drawFetch.cfg = s.cfg := rfl

@[simp] theorem State.stepCall_cfg (us : Word) (n : Nat) : (s.stepCall us n).cfg = s.cfg := by
  obtain ⟨-, h⟩ | ⟨-, -, h⟩ | ⟨-, -, h⟩ := stepCall_cases s us n <;> simp [h]

/-- The host's edits and its call leave the configuration alone (R340, R300). -/
@[simp] theorem State.beginCall_cfg : s.beginCall.cfg = s.cfg := by
  have hedits := (edits_keep s.popCall s.nextCall.edits).1
  simpa [State.beginCall] using hedits

/-- No effect of an instruction changes the configuration. -/
theorem InstrEffect.cfg_eq {i : Instr} {s t : State} (h : InstrEffect s i t) : t.cfg = s.cfg := by
  cases h <;> simp

/-- Settles O9: each thing a step can do keeps the configuration, an instruction because all its effects do. -/
theorem stepKeepsConfiguration : Obligations.StepKeepsConfiguration := by
  intro s t h
  obtain ⟨-, -, ⟨-, rfl⟩ | ⟨-, rfl⟩ | ⟨n, e, -, -, rfl⟩ | ⟨n, w, e, -, -, -, rfl⟩ | ⟨n, w, i, -, -, -, hexec⟩⟩ :=
    step_cases h
  · exact s.beginCall_cfg
  · exact s.returnNormal_cfg
  · simp
  · simp
  · simpa using (effect_of_exec hexec).cfg_eq

end Sys2Proof.Machine
end

section
/-!
SUPPORT. The machine's invariant over one step (spec/10_state.md R56, spec/20_memory.md R71, R74, spec/60_exceptions.md R303,
R325, R340). Its memory part: each write of RAM, the core's or the host's, keeps RAM canonical and within RAM. Its control
part: an instruction ends the call or leaves the status, the latch and the call alone, and a call enters its loop only awake.
-/

namespace Sys2Proof.Machine

variable {s t : State}

/-! ### RAM stays canonical and within RAM -/

/-- Whatever the host writes, what it lists lies in RAM (R340). -/
theorem MemoryOk.hostWrites {c : Config} {m : Memory} (h : MemoryOk c m) (l : List Host.Cell) :
    MemoryOk c (hostWrites c l m) := by
  obtain ⟨hwf, hram⟩ := h
  exact ⟨hostWrites_keeps_wf c l m hwf, fun e he => (mem_hostWrites c l m e he).elim id (hram e)⟩

/-- A store lists only its own bytes, and they lie in RAM where the arbiter gives the access to RAM (R71, R75). -/
theorem MemoryOk.ramStore {c : Config} {m : Memory} {a off : Word} {w : Width} (h : MemoryOk c m) (hc : c.ok = true)
    (ha : classify c a w = .ram off) (v : Word) : MemoryOk c (ramStore m a w v) := by
  obtain ⟨hwf, hram⟩ := h
  refine ⟨ramStore_keeps_wf m a w v hwf, fun e he => ?_⟩
  rcases mem_ramStore m a w v e he with ⟨k, hk, heq⟩ | hold
  · rw [heq]
    exact classify_ram_inRam hc ha k hk
  · exact hram e hold

theorem csrRead_memoryOk (h : MemoryOk s.cfg s.mem) (n : CsrIx) : MemoryOk s.cfg (s.csrRead n).mem := by
  rcases csrRead_mem s n with hm | hm <;> rw [hm]
  · exact h
  · exact h.hostWrites _

theorem csrWrite_memoryOk (h : MemoryOk s.cfg s.mem) (n : CsrIx) (v : Word) : MemoryOk s.cfg (s.csrWrite n v).mem := by
  rcases csrWrite_mem s n v with hm | hm <;> rw [hm]
  · exact h
  · exact h.hostWrites _

theorem edit_memoryOk (h : MemoryOk s.cfg s.mem) (e : HostEdit) : MemoryOk s.cfg (s.edit e).mem := by
  cases e with
  | writeRam a b => exact h.hostWrites _
  | setCsr k v => cases k <;> exact h
  | setX | setPc | setCycle | setTimer | setTimermatch | setExtraflags => exact h

theorem edits_memoryOk (h : MemoryOk s.cfg s.mem) (l : List HostEdit) :
    MemoryOk s.cfg (l.foldl State.edit s).mem := by
  induction l generalizing s with
  | nil => exact h
  | cons e l ih =>
    have hcfg : (s.edit e).cfg = s.cfg := (edit_keeps s e).1
    have hedit : MemoryOk (s.edit e).cfg (s.edit e).mem := hcfg ▸ edit_memoryOk h e
    exact hcfg ▸ ih hedit

@[simp] theorem State.sleep_mem (s : State) : s.sleep.mem = s.mem := by
  unfold State.sleep
  split <;> rfl

@[simp] theorem State.mmioStore_mem (s : State) (a v : Word) : (s.mmioStore a v).mem = s.mem := by
  obtain ⟨-, h⟩ | ⟨-, h⟩ := mmioStore_cases s a v <;> simp [h]

/-- An instruction writes RAM only by a store the arbiter gives to RAM, or by the host's CSR hooks. -/
theorem InstrEffect.memoryOk {i : Instr} (h : InstrEffect s i t) (hc : s.cfg.ok = true) (hm : MemoryOk s.cfg s.mem) :
    MemoryOk t.cfg t.mem := by
  rw [h.cfg_eq]
  cases h with
  | retire | setPc | jump | mmioLoad | reserve | trapReturn => exact hm
  | raise | mmioStore | sleep => simpa using hm
  | ramStore a off w v ha => exact hm.ramStore hc ha v
  | atomicStore a off v rd old ha => exact hm.ramStore (w := .word) hc ha v
  | csrAccess _ n new rd old =>
    have hread : MemoryOk (s.csrRead n).cfg (s.csrRead n).mem := by simpa using csrRead_memoryOk hm n
    simpa using csrWrite_memoryOk hread n new

/-! ### The call in progress -/

/-- Once a call has returned, only RAM is left to look at. -/
theorem inv_of_returned (hm : MemoryOk s.cfg s.mem) (hcall : s.call = none) : s.Inv :=
  ⟨hm, fun _ => hcall, fun _ => hcall⟩

/-- While the run goes on and the core is awake, only RAM is left to look at. -/
theorem inv_of_awake (hm : MemoryOk s.cfg s.mem) (hrun : s.status = .running) (hwfi : s.wfi = false) : s.Inv :=
  ⟨hm, fun h => absurd hrun h, fun h => absurd h (by simp [hwfi])⟩

/-- Inside a call the core is awake (R303, R325). -/
theorem State.Inv.awake {n : Nat} (h : s.Inv) (hcall : s.call = some n) : s.wfi = false := by
  obtain ⟨-, -, hsleep⟩ := h
  cases hwfi : s.wfi with
  | false => rfl
  | true => simp [hsleep hwfi] at hcall

/-- An MMIO store ends the run and with it the call, or changes neither the status, nor the latch, nor the call (R83). -/
theorem mmioStore_control (s : State) (a v : Word) :
    (s.mmioStore a v).call = none
      ∨ (s.mmioStore a v).status = s.status ∧ (s.mmioStore a v).wfi = s.wfi := by
  obtain ⟨-, h⟩ | ⟨-, h⟩ := mmioStore_cases s a v
  · exact .inr (by simp [h])
  · exact .inl (by simp [h])

/-- An instruction ends the call, or changes neither the status nor the latch. -/
theorem InstrEffect.control {i : Instr} (h : InstrEffect s i t) :
    t.call = none ∨ t.status = s.status ∧ t.wfi = s.wfi := by
  cases h with
  | retire | setPc | jump | mmioLoad | ramStore | atomicStore | reserve | trapReturn => exact .inr ⟨rfl, rfl⟩
  | raise e tval => exact .inl (raise_call s e tval)
  | sleep => exact .inl rfl
  | mmioStore a v => exact mmioStore_control s a v
  | csrAccess _ n new rd old =>
    obtain ⟨-, -, -, -, hrwfi, -, hrstatus, -⟩ := csrRead_keeps s n
    obtain ⟨-, -, -, -, hwwfi, -, hwstatus, -⟩ := csrWrite_keeps (s.csrRead n) n new
    exact .inr ⟨hwstatus.trans hrstatus, hwwfi.trans hrwfi⟩

/-- An instruction of a run that goes on, executed by a core that is awake, ends in a state of the invariant. -/
theorem InstrEffect.inv {i : Instr} (h : InstrEffect s i t) (hc : s.cfg.ok = true) (hm : MemoryOk s.cfg s.mem)
    (hrun : s.status = .running) (hwfi : s.wfi = false) : t.Inv := by
  obtain hcall | ⟨hstatus, hlatch⟩ := h.control
  · exact inv_of_returned (h.memoryOk hc hm) hcall
  · exact inv_of_awake (h.memoryOk hc hm) (hstatus.trans hrun) (hlatch.trans hwfi)

/-! ### The start of a call, and an exception -/

/-- A raised exception ends the call and leaves RAM alone (R310, R320). -/
theorem raise_inv (hm : MemoryOk s.cfg s.mem) (e : Exc) (tval : Word) : (s.raise e tval).Inv :=
  inv_of_returned (by simpa using hm) (raise_call s e tval)

/-- A call returns at once, asleep or by the interrupt, or enters its loop awake (R303, R304). -/
theorem stepCall_inv (hm : MemoryOk s.cfg s.mem) (hrun : s.status = .running) (us : Word) (n : Nat) :
    (s.stepCall us n).Inv := by
  obtain ⟨-, h⟩ | ⟨-, -, h⟩ | ⟨hwfi, -, h⟩ := stepCall_cases s us n <;> rw [h]
  · exact inv_of_returned hm rfl
  · exact inv_of_returned hm rfl
  · exact inv_of_awake hm hrun hwfi

/-- The host may edit any field before its call, RAM included, but neither the configuration nor the status (R340, R300). -/
theorem beginCall_inv (hm : MemoryOk s.cfg s.mem) (hrun : s.status = .running) : s.beginCall.Inv := by
  obtain ⟨hcfg, hstatus, -⟩ := edits_keep s.popCall s.nextCall.edits
  have hedits := edits_memoryOk (s := s.popCall) hm s.nextCall.edits
  exact stepCall_inv (hcfg ▸ hedits) (hstatus.trans hrun) _ _

/-- Settles O8: each thing a step can do ends the call, or goes on awake; none lists a byte outside RAM. -/
theorem stepKeepsInvariant : Obligations.StepKeepsInvariant := by
  intro s t hinv hstep
  have hm : MemoryOk s.cfg s.mem := hinv.1
  obtain ⟨hc, hrun, ⟨-, rfl⟩ | ⟨-, rfl⟩ | ⟨n, e, -, -, rfl⟩ | ⟨n, w, e, -, -, -, rfl⟩ |
    ⟨n, w, i, hcall, -, -, hexec⟩⟩ := step_cases hstep
  · exact beginCall_inv hm hrun
  · exact inv_of_returned hm rfl
  · exact raise_inv (s := s.beginAttempt n 0#32) hm _ _
  · exact raise_inv (s := s.drawFetch.beginAttempt n w) hm _ _
  · exact (effect_of_exec hexec).inv hc hm hrun (hinv.awake hcall)

end Sys2Proof.Machine
end

section
/-!
SUPPORT. The smaller statements about the state: the 64-bit cycle count (spec/10_state.md R44, R306), x0 (R31), and a run
that has ended (R56).
-/

namespace Sys2Proof.Machine

/-- A commit as arithmetic: the high half takes the carry when the new low half is below the old one (R306). -/
theorem committed_toNat (cycle : BitVec 64) (c : Word) :
    (committed cycle c).toNat
      = (cycle.toNat / 2 ^ 32 + if c.toNat < cycle.toNat % 2 ^ 32 then 1 else 0) % 2 ^ 32 * 2 ^ 32 + c.toNat := by
  have hlow : (cycle.extractLsb' 0 32).toNat = cycle.toNat % 2 ^ 32 := by simp
  have hhigh : (cycle.extractLsb' 32 32).toNat = cycle.toNat / 2 ^ 32 := by
    rw [BitVec.extractLsb'_toNat, Nat.shiftRight_eq_div_pow]
    exact Nat.mod_eq_of_lt (by have := cycle.isLt; omega)
  simp only [committed, hlow]
  rw [BitVec.toNat_append, ← Nat.shiftLeft_add_eq_or_of_lt c.isLt, Nat.shiftLeft_eq]
  split
  · rw [BitVec.toNat_add, hhigh, BitVec.toNat_ofNat, Nat.one_mod]
  · rw [hhigh, Nat.add_zero, Nat.mod_eq_of_lt (hhigh ▸ BitVec.isLt _)]

/-- Settles O17: both sides are the same number, since fewer than 2^32 attempts wrap the low half at most once. -/
theorem commitAddsAttempts : Obligations.CommitAddsAttempts := by
  intro cycle k hk
  have hlow : (cycle.extractLsb' 0 32 + BitVec.ofNat 32 k).toNat = (cycle.toNat % 2 ^ 32 + k) % 2 ^ 32 := by
    simp
  apply BitVec.eq_of_toNat_eq
  rw [committed_toNat, hlow, BitVec.toNat_add, BitVec.toNat_ofNat]
  have := cycle.isLt
  split <;> omega

/-- Settles O10: the two rules of x0. -/
theorem registerZeroIsHardwired : Obligations.RegisterZeroIsHardwired :=
  ⟨State.x_zero, State.setX_zero⟩

/-- Settles O15: a step goes on only in a run that goes on. -/
theorem endedRunIsStuck : Obligations.EndedRunIsStuck := by
  intro s hc
  constructor
  · intro e hstatus
    simp [step, hc, hstatus]
  · intro v hstatus
    simp [step, hc, hstatus]

end Sys2Proof.Machine
end

section
/-!
SUPPORT. When a step result meets the terms the claims are made in (Sys2Proof/Safety.lean): a retired register write, a
raised exception under either fault policy (spec/60_exceptions.md R316, R320), and the bytes of a RAM store (spec/20_memory.md R74).
-/

namespace Sys2Proof.Machine

variable (s : State)

/-- Retiring with one register write is the whole effect `x[rd] <- v ; pc <- pc + 4` (R11). -/
theorem retire_regResult (rd : RegIx) (v : Word) : RegResult s (s.retire rd v) rd v :=
  ⟨rfl, s.retire_x rd v⟩

/-- The stacked `mstatus` by shifts: bit 3 moves to bit 7 (R316). -/
theorem trapMstatus_eq_shifts (m : Word) (p : BitVec 2) :
    trapMstatus m p = (((m >>> 3) &&& 1#32) <<< 7) ||| (p.setWidth 32 <<< 11) := by
  have hbit : (m >>> 3) &&& 1#32 = (BitVec.ofBool (mieBit m)).setWidth 32 := by
    rw [BitVec.and_one_eq_setWidth_ofBool_getLsbD, BitVec.getLsbD_ushiftRight]
    rfl
  rw [hbit, trapMstatus]
  cases mieBit m <;> rfl

/-- The trap of an exception is all that a trap may do (R316, R320). -/
theorem trapHere_trapResult (e : Exc) (tval : Word) : TrapResult s e tval (s.trapHere e tval) := by
  rw [TrapResult, ← trapMstatus_eq_shifts, List.append_cons]
  exact trapHere_eq s e tval

/-- Without the fault policy a raised exception is a trap (R320). -/
theorem raise_trapResult (e : Exc) (tval : Word) (h : s.cfg.failOnAllFaults = false) :
    TrapResult s e tval (s.raise e tval) := by
  rw [raise_of_trap s e tval h]
  exact trapHere_trapResult s e tval

/-- Under the fault policy a raised exception aborts the run (R320). -/
theorem raise_abortResult (e : Exc) (tval : Word) (h : s.cfg.failOnAllFaults = true) :
    AbortResult s e (s.raise e tval) := by
  rw [raise_of_abort s e tval h]
  exact abort_eq s e

variable {s}

/-- An instruction that answers a raised exception faults, under either policy. -/
theorem faults_of_raise {i : Instr} {e : Exc} {tval : Word} (h : exec i s = .next (s.raise e tval)) :
    Faults i s e tval :=
  ⟨fun hp => ⟨_, h, raise_trapResult s e tval hp⟩, fun hp => ⟨_, h, raise_abortResult s e tval hp⟩⟩

theorem bytesStored_zero (m : Memory) (a : Nat) (v : Word) : BytesStored m m a 0 v :=
  ⟨fun _ hk => absurd hk (Nat.not_lt_zero _), fun _ _ => rfl⟩

/-- Writing the next byte of the value extends the bytes stored by one. -/
theorem BytesStored.writeByte_succ {m m' : Memory} {a n : Nat} {v : Word} (h : BytesStored m m' a n v) :
    BytesStored m (writeByte m' (a + n) (v.extractLsb' (8 * n) 8)) a (n + 1) v := by
  obtain ⟨hin, hout⟩ := h
  constructor
  · intro k hk
    rw [readByte_writeByte]
    rcases eq_or_ne k n with rfl | hne
    · rw [if_pos rfl]
    · rw [if_neg (by omega), hin k (by omega)]
  · intro b hb
    rw [readByte_writeByte, if_neg (by omega), hout b (by omega)]

/-- A RAM store writes the low bytes of the value and no other byte (R74, R81). -/
theorem ramStore_bytesStored (m : Memory) (a : Word) (w : Width) (v : Word) :
    BytesStored m (ramStore m a w v) a.toNat (widthBytes w) v := by
  have h := bytesStored_zero m a.toNat v
  cases w with
  | byte => exact h.writeByte_succ
  | half => exact h.writeByte_succ.writeByte_succ
  | word => exact h.writeByte_succ.writeByte_succ.writeByte_succ.writeByte_succ

end Sys2Proof.Machine
end

section
/-!
SUPPORT. The arbiter by address ranges (spec/20_memory.md R71 to R78): under R7's constraints the offset test of R75 is the
range test of R71, and the window never meets RAM.
-/

namespace Sys2Proof.Machine

variable {c : Config}

/-- The constraints of R7 as numbers. -/
theorem config_ok_iff : c.ok = true ↔ c.ramSize % 4 = 0 ∧ 4 ≤ c.ramSize ∧ c.ramBase.toNat + c.ramSize ≤ 2 ^ 32
    ∧ (c.mmioHi.toNat ≤ c.ramBase.toNat ∨ c.ramBase.toNat + c.ramSize ≤ c.mmioLo.toNat
      ∨ c.mmioHi.toNat ≤ c.mmioLo.toNat) := by
  simp only [Config.ok, Bool.and_eq_true, Bool.or_eq_true, decide_eq_true_eq, beq_iff_eq, and_assoc, or_assoc]

theorem widthBytes_pos (w : Width) : 0 < widthBytes w := by
  cases w <;> decide

/-- RAM ends within the address space, so an access is in RAM by its offset exactly when it is by its address (R71, R75). -/
theorem offset_in_ram_iff (hc : c.ok = true) (a : Word) {n : Nat} (hn : 0 < n) :
    (a - c.ramBase).toNat + n ≤ c.ramSize
      ↔ c.ramBase.toNat ≤ a.toNat ∧ a.toNat + n ≤ c.ramBase.toNat + c.ramSize := by
  obtain ⟨-, -, hend, -⟩ := config_ok_iff.1 hc
  have ha := a.isLt
  have hb := c.ramBase.isLt
  rw [BitVec.toNat_sub]
  omega

/-- The arbiter's tests without the tail guard, by address (R75, R77). -/
theorem classify_unguarded (hc : c.ok = true) (hg : c.ramTailGuard = false) (a : Word) (w : Width) :
    classify c a w =
      if a.toNat % widthBytes w ≠ 0 then .misaligned
      else if c.ramBase.toNat ≤ a.toNat ∧ a.toNat + widthBytes w ≤ c.ramBase.toNat + c.ramSize then
        .ram (a - c.ramBase)
      else if c.mmioLo.toNat ≤ a.toNat ∧ a.toNat < c.mmioHi.toNat then .mmio
      else .invalid := by
  simp only [classify, hg, offset_in_ram_iff hc a (widthBytes_pos w), Bool.false_eq_true, false_and, not_false_eq_true,
    and_true]

/-- R7 keeps the window disjoint from RAM (R72). -/
theorem not_in_ram_of_in_window (hc : c.ok = true) {a : Word} {w : Width}
    (h : c.mmioLo.toNat ≤ a.toNat ∧ a.toNat < c.mmioHi.toNat) :
    ¬(c.ramBase.toNat ≤ a.toNat ∧ a.toNat + widthBytes w ≤ c.ramBase.toNat + c.ramSize) := by
  obtain ⟨-, -, -, hdisjoint⟩ := config_ok_iff.1 hc
  have := widthBytes_pos w
  omega

/-- The width of an access is its number of bytes (R84). -/
theorem widthBytes_of_mem {w : Width} {n : Nat} (h : (w, n) ∈ [(Width.byte, 1), (.half, 2), (.word, 4)]) :
    n = widthBytes w := by
  simp only [List.mem_cons, Prod.mk.injEq, List.not_mem_nil, or_false] at h
  obtain ⟨rfl, rfl⟩ | ⟨rfl, rfl⟩ | ⟨rfl, rfl⟩ := h <;> rfl

/-- Settles O42: each clause picks its branch of the tests by address. -/
theorem accessRegions : Obligations.AccessRegions := by
  intro c a w n hw hc hg
  obtain rfl := widthBytes_of_mem hw
  rw [classify_unguarded hc hg]
  refine ⟨fun h => if_pos h, fun h hlo hhi => ?_, fun h hlo hhi => ?_, fun h hram hwin => ?_⟩
  · rw [if_neg (not_not.2 h), if_pos ⟨hlo, hhi⟩]
  · rw [if_neg (not_not.2 h), if_neg (not_in_ram_of_in_window hc ⟨hlo, hhi⟩), if_pos ⟨hlo, hhi⟩]
  · rw [if_neg (not_not.2 h), if_neg hram, if_neg hwin]

/-- Under the tail guard an access in RAM ends below the last three bytes (R77). -/
theorem offset_lt_of_guarded_ram (hg : c.ramTailGuard = true) {a : Word} {w : Width} {off : Word}
    (h : classify c a w = .ram off) : (a - c.ramBase).toNat + 3 < c.ramSize := by
  simp only [classify] at h
  split at h
  · cases h
  · split at h
    · next hram => exact Nat.lt_of_not_le fun hle => hram.2 ⟨hg, hle⟩
    · split at h <;> cases h

/-- The guard's test is false below the last three bytes, and past the end the offset test is false with or without it. -/
theorem classify_of_outside_tail (a : Word) (w : Width)
    (h : (a - c.ramBase).toNat + 3 < c.ramSize ∨ c.ramSize ≤ (a - c.ramBase).toNat) :
    classify c a w = classify { c with ramTailGuard := false } a w := by
  have hw := widthBytes_pos w
  have hsame : ((a - c.ramBase).toNat + widthBytes w ≤ c.ramSize
        ∧ ¬(c.ramTailGuard = true ∧ c.ramSize ≤ (a - c.ramBase).toNat + 3))
      ↔ (a - c.ramBase).toNat + widthBytes w ≤ c.ramSize := by
    omega
  simp only [classify, hsame, Bool.false_eq_true, false_and, not_false_eq_true, and_true]

/-- Settles O43: the guard's test is true exactly in the last three bytes of RAM. -/
theorem tailGuardRefusesLastBytes : Obligations.TailGuardRefusesLastBytes := by
  intro c a w hc hg
  obtain ⟨-, hsize, -, -⟩ := config_ok_iff.1 hc
  constructor
  · intro htail off h
    have := offset_lt_of_guarded_ram hg h
    omega
  · intro h
    exact classify_of_outside_tail a w (by omega)

end Sys2Proof.Machine
end

section
/-!
SUPPORT. Loads and stores by the region the arbiter gives (spec/20_memory.md R80 to R83, spec/41_loads_stores.md R160): one
equation per region, and the five loads and three stores as one load and one store each.
-/

namespace Sys2Proof.Machine

variable {s : State} {w : Width} {a off : Word}

/-! ### One equation per region -/

theorem load_of_misaligned (h : classify s.cfg a w = .misaligned) (sg : Bool) (rd : RegIx) :
    s.load w sg rd a = .next (s.raise .loadAddressMisaligned a) := by
  simp [State.load, h]

theorem load_of_ram (h : classify s.cfg a w = .ram off) (sg : Bool) (rd : RegIx) :
    s.load w sg rd a = .next (s.retire rd (ramLoad s.mem a w sg)) := by
  simp [State.load, h]

theorem load_of_mmio (h : classify s.cfg a w = .mmio) (sg : Bool) (rd : RegIx) :
    s.load w sg rd a = .next ((s.mmioHook (.mmioLoad a)).retire rd s.reply.value) := by
  simp [State.load, h]

theorem load_of_invalid (h : classify s.cfg a w = .invalid) (sg : Bool) (rd : RegIx) :
    s.load w sg rd a = .next (s.raise .loadAccessFault a) := by
  simp [State.load, h]

theorem store_of_misaligned (h : classify s.cfg a w = .misaligned) (v : Word) :
    s.store w a v = .next (s.raise .storeAddressMisaligned a) := by
  simp [State.store, h]

theorem store_of_ram (h : classify s.cfg a w = .ram off) (v : Word) :
    s.store w a v = .next ({ s with mem := ramStore s.mem a w v }.advance) := by
  simp [State.store, h]

theorem store_of_mmio (h : classify s.cfg a w = .mmio) (v : Word) : s.store w a v = .next (s.mmioStore a v) := by
  simp [State.store, h]

theorem store_of_invalid (h : classify s.cfg a w = .invalid) (v : Word) :
    s.store w a v = .next (s.raise .storeAccessFault a) := by
  simp [State.store, h]

theorem mmioStore_of_zero (h : s.reply.value = 0#32) (a v : Word) :
    s.mmioStore a v = (s.mmioHook (.mmioStore a v)).advance :=
  if_pos h

theorem mmioStore_of_ne_zero (h : s.reply.value ≠ 0#32) (a v : Word) :
    s.mmioStore a v = ((s.mmioHook (.mmioStore a v)).advance).hostStop s.reply.value :=
  if_neg h

/-! ### The load and store instructions (R161 to R168) -/

/-- The five loads, each with its width. -/
def loadInstrs (rd rs1 : RegIx) (imm : Word) : List (Instr × Width) :=
  [(.lb rd rs1 imm, .byte), (.lbu rd rs1 imm, .byte), (.lh rd rs1 imm, .half), (.lhu rd rs1 imm, .half),
    (.lw rd rs1 imm, .word)]

/-- The three stores, each with its width. -/
def storeInstrs (rs1 rs2 : RegIx) (imm : Word) : List (Instr × Width) :=
  [(.sb rs1 rs2 imm, .byte), (.sh rs1 rs2 imm, .half), (.sw rs1 rs2 imm, .word)]

/-- Each of the five is a load at the effective address, signed or not. -/
theorem exec_of_mem_loadInstrs {rd rs1 : RegIx} {imm : Word} {i : Instr} (h : (i, w) ∈ loadInstrs rd rs1 imm)
    (s : State) : ∃ sg, exec i s = s.load w sg rd (s.x rs1 + imm) := by
  simp only [loadInstrs, List.mem_cons, Prod.mk.injEq, List.not_mem_nil, or_false] at h
  obtain ⟨rfl, rfl⟩ | ⟨rfl, rfl⟩ | ⟨rfl, rfl⟩ | ⟨rfl, rfl⟩ | ⟨rfl, rfl⟩ := h
  · exact ⟨true, rfl⟩
  · exact ⟨false, rfl⟩
  · exact ⟨true, rfl⟩
  · exact ⟨false, rfl⟩
  · exact ⟨false, rfl⟩

/-- Each of the three is a store of `x[rs2]` at the effective address. -/
theorem exec_of_mem_storeInstrs {rs1 rs2 : RegIx} {imm : Word} {i : Instr} (h : (i, w) ∈ storeInstrs rs1 rs2 imm)
    (s : State) : exec i s = s.store w (s.x rs1 + imm) (s.x rs2) := by
  simp only [storeInstrs, List.mem_cons, Prod.mk.injEq, List.not_mem_nil, or_false] at h
  obtain ⟨rfl, rfl⟩ | ⟨rfl, rfl⟩ | ⟨rfl, rfl⟩ := h <;> rfl

/-! ### RAM -/

/-- A load that reads RAM only writes its register (R80). -/
theorem load_regResult (h : classify s.cfg a w = .ram off) (sg : Bool) (rd : RegIx) :
    ∃ t, s.load w sg rd a = .next t ∧ RegResult s t rd (ramLoad s.mem a w sg) :=
  ⟨_, load_of_ram h sg rd, retire_regResult s rd _⟩

/-- Settles O44: each load is the RAM read of its width and signedness. -/
theorem ramLoadResults : Obligations.RamLoadResults := by
  intro s rd rs1 imm off
  exact ⟨fun h => ⟨load_regResult h true rd, load_regResult h false rd⟩,
    fun h => ⟨load_regResult h true rd, load_regResult h false rd⟩, fun h => load_regResult h false rd⟩

/-- A store that reaches RAM only writes its bytes (R81). -/
theorem store_storeResult (h : classify s.cfg a w = .ram off) (v : Word) :
    ∃ t, s.store w a v = .next t ∧ StoreResult s a.toNat (widthBytes w) v t :=
  ⟨_, store_of_ram h v, rfl, ramStore_bytesStored s.mem a w v⟩

/-- Settles O47: each store writes the bytes of its width. -/
theorem ramStoreResults : Obligations.RamStoreResults := by
  intro s rs1 rs2 imm off
  exact ⟨fun h => store_storeResult h _, fun h => store_storeResult h _, fun h => store_storeResult h _⟩

/-- What a store to RAM leaves for a later load: the bytes it wrote, every register and every region (R81). -/
theorem ram_store_keeps {t : State} {v : Word} (hram : classify s.cfg a w = .ram off) (ht : s.store w a v = .next t) :
    t.mem = ramStore s.mem a w v ∧ t.cfg = s.cfg ∧ ∀ r, t.x r = s.x r := by
  rw [store_of_ram hram] at ht
  cases ht
  exact ⟨rfl, rfl, fun _ => rfl⟩

/-- The register a load from RAM leaves (R80). -/
theorem ram_load_x {u : State} {rd : RegIx} {sg : Bool} (hrd : rd ≠ 0#5) (hram : classify s.cfg a w = .ram off)
    (hu : s.load w sg rd a = .next u) : u.x rd = ramLoad s.mem a w sg := by
  rw [load_of_ram hram] at hu
  cases hu
  simp [hrd]

/-- A load at the operands of a store to RAM reads the RAM the store left. -/
theorem load_after_ram_store {t u : State} {rd rs1 : RegIx} {imm v : Word} {sg : Bool} (hrd : rd ≠ 0#5)
    (hram : classify s.cfg (s.ea rs1 imm) w = .ram off) (ht : s.store w (s.ea rs1 imm) v = .next t)
    (hu : t.load w sg rd (t.ea rs1 imm) = .next u) :
    u.x rd = ramLoad (ramStore s.mem (s.ea rs1 imm) w v) (s.ea rs1 imm) w sg := by
  obtain ⟨hmem, hcfg, hx⟩ := ram_store_keeps hram ht
  have hea : t.ea rs1 imm = s.ea rs1 imm := congrArg (· + imm) (hx rs1)
  rw [hea] at hu
  rw [← hmem]
  exact ram_load_x hrd (hcfg ▸ hram) hu

/-- A word of RAM reads back as stored (R87). -/
theorem ramLoad_ramStore_word (m : Memory) (a v : Word) (sg : Bool) :
    ramLoad (ramStore m a .word v) a .word sg = v :=
  readWord_writeWord m a.toNat v

/-- A byte of RAM reads back unsigned as the low eight bits stored (R87). -/
theorem ramLoad_ramStore_byte_toNat (m : Memory) (a v : Word) :
    (ramLoad (ramStore m a .byte v) a .byte false).toNat = v.toNat % 256 := by
  have hbyte : ramLoad (ramStore m a .byte v) a .byte false = (v.extractLsb' 0 8).setWidth 32 := by
    simp [ramLoad, ramStore, writeLow8]
  rw [hbyte, BitVec.toNat_setWidth_of_le (by decide), BitVec.extractLsb'_toNat, Nat.shiftRight_zero]

/-- Settles O50: the load reads the RAM the store left, where a word and a byte read back as stored. -/
theorem storeThenLoadGivesValue : Obligations.StoreThenLoadGivesValue := by
  intro s t u rd rs1 rs2 imm off hrd
  constructor
  · intro hram ht hu
    exact (load_after_ram_store hrd hram ht hu).trans (ramLoad_ramStore_word _ _ _ _)
  · intro hram ht hu
    rw [load_after_ram_store hrd hram ht hu]
    exact ramLoad_ramStore_byte_toNat _ _ _

/-! ### The MMIO window -/

/-- Settles O46: every load from the window is one call of the load hook, whose answer retires unchanged. -/
theorem mmioLoadResults : Obligations.MmioLoadResults := by
  intro s rd rs1 imm i w hi ea hmmio
  obtain ⟨sg, hexec⟩ := exec_of_mem_loadInstrs hi s
  exact ⟨_, hexec.trans (load_of_mmio hmmio sg rd), rfl, State.retire_x _ rd _⟩

/-- Settles O49: every store to the window is one call of the store hook; its flag decides whether the run goes on. -/
theorem mmioStoreResults : Obligations.MmioStoreResults := by
  intro s rs1 rs2 imm i w hi ea flag hmmio
  have hexec := (exec_of_mem_storeInstrs hi s).trans (store_of_mmio hmmio _)
  constructor
  · intro hflag
    rw [mmioStore_of_zero hflag] at hexec
    exact ⟨_, hexec, rfl⟩
  · intro hflag
    rw [mmioStore_of_ne_zero hflag] at hexec
    refine ⟨_, hexec, ?_⟩
    rw [List.append_cons]
    rfl

/-! ### Faults -/

/-- Settles O45: a load at a bad address raises its exception and nothing else. -/
theorem loadFaults : Obligations.LoadFaults := by
  intro s rd rs1 imm i w hi
  obtain ⟨sg, hexec⟩ := exec_of_mem_loadInstrs hi s
  exact ⟨fun h => faults_of_raise (hexec.trans (load_of_misaligned h sg rd)),
    fun h => faults_of_raise (hexec.trans (load_of_invalid h sg rd)), rfl, rfl⟩

/-- Settles O48: a store at a bad address raises its exception and nothing else. -/
theorem storeFaults : Obligations.StoreFaults := by
  intro s rs1 rs2 imm i w hi
  have hexec := exec_of_mem_storeInstrs hi s
  exact ⟨fun h => faults_of_raise (hexec.trans (store_of_misaligned h _)),
    fun h => faults_of_raise (hexec.trans (store_of_invalid h _)), rfl, rfl⟩

end Sys2Proof.Machine
end

section
/-!
SUPPORT. An attempt by its fetch (spec/20_memory.md R79, spec/60_exceptions.md R300, R313, R314): one equation per thing a
fetch gives, and the step each comes to.
-/

namespace Sys2Proof.Machine

variable {s : State}

/-- The range comes before the alignment (R79). -/
theorem fetch_of_outside (h : s.cfg.ramSize ≤ (s.pc - s.cfg.ramBase).toNat) : s.fetch = .fault .instrAccessFault :=
  if_pos h

theorem fetch_of_misaligned (h : (s.pc - s.cfg.ramBase).toNat < s.cfg.ramSize) (hp : s.pc.toNat % 4 ≠ 0) :
    s.fetch = .fault .instrAddressMisaligned :=
  (if_neg (Nat.not_le.2 h)).trans (if_pos hp)

theorem fetch_of_aligned (h : (s.pc - s.cfg.ramBase).toNat < s.cfg.ramSize) (hp : s.pc.toNat % 4 = 0) :
    s.fetch = .word (FetchedWord s) := by
  rw [fetchedWord_eq]
  exact (if_neg (Nat.not_le.2 h)).trans (if_neg (not_not.2 hp))

variable {n : Nat}

/-- A fetch fault raises its exception with the pc as trap value, and the hook is told the word 0 (R313). -/
theorem step_of_fetch_fault {e : Exc} (hc : s.cfg.ok = true) (hs : s.status = .running) (hk : s.call = some (n + 1))
    (hf : s.fetch = .fault e) : step s = .next ((s.beginAttempt n 0#32).raise e s.pc) := by
  rw [step_of_attempt s hc hs hk]
  simp [State.attempt, hf, runAttempt]

/-- A fetched word that decodes is executed (R300). -/
theorem step_of_decoded {w : Word} {i : Instr} (hc : s.cfg.ok = true) (hs : s.status = .running)
    (hk : s.call = some (n + 1)) (hf : s.fetch = .word w) (hd : decode w = .ok i) :
    step s = exec i (AttemptState s n w) := by
  rw [step_of_attempt s hc hs hk, attemptState_eq]
  simp [State.attempt, hf, hd, runAttempt]

/-- Settles O11: the fetch gives the word the claim names, and a fetch of a whole word gives RAM's and draws nothing. -/
theorem stepRunsDecodedInstruction : Obligations.StepRunsDecodedInstruction := by
  intro s n i hc hs hk hin hp
  have hf := fetch_of_aligned hin hp
  constructor
  · intro hd
    exact step_of_decoded hc hs hk hf hd
  · intro hend w hd
    have hwhole : s.wholeFetch = true := decide_eq_true hend
    rw [fetchedWord_eq, fetchWord_of_whole s hc hwhole] at hf
    rw [step_of_decoded hc hs hk hf hd, attemptState_eq, drawFetch_of_whole s hwhole]
    rfl

/-- Settles O12: each bad pc faults in the fetch, and the fault traps. -/
theorem fetchFaultsTrap : Obligations.FetchFaultsTrap := by
  intro s n hc hs hk hpolicy s'
  have htrap : ∀ e, s.fetch = .fault e → ∃ t, step s = .next t ∧ TrapResult s' e s.pc t := fun e hf =>
    ⟨_, step_of_fetch_fault hc hs hk hf, raise_trapResult s' e s.pc hpolicy⟩
  exact ⟨fun h => htrap _ (fetch_of_outside h), fun h hp => htrap _ (fetch_of_misaligned h hp), rfl, rfl⟩

end Sys2Proof.Machine
end

section
/-!
SUPPORT. What the decoder reads back from a word of each format (spec/30_encoding.md R111 to R120): its fields, and its
immediate where the format encodes it; and the range of every immediate the decoder reads.
-/

namespace Sys2Proof

/-! ### The fields of a word of each format (R112) -/

section
variable (f7 : BitVec 7) (f5 rs2 rs1 rd : BitVec 5) (f3 : BitVec 3) (op : BitVec 7) (imm12 : BitVec 12) (imm : Word)
  (aq rl : Bool)

@[simp] theorem fields_encR :
    fOpcode (encR f7 rs2 rs1 f3 rd op) = op ∧ fRd (encR f7 rs2 rs1 f3 rd op) = rd
      ∧ fFunct3 (encR f7 rs2 rs1 f3 rd op) = f3 ∧ fRs1 (encR f7 rs2 rs1 f3 rd op) = rs1
      ∧ fRs2 (encR f7 rs2 rs1 f3 rd op) = rs2 ∧ fBit25 (encR f7 rs2 rs1 f3 rd op) = f7.extractLsb' 0 1
      ∧ fBit30 (encR f7 rs2 rs1 f3 rd op) = f7.extractLsb' 5 1 := by
  unfold encR fOpcode fRd fFunct3 fRs1 fRs2 fBit25 fBit30
  simp (disch := decide) only [BitVec.extractLsb'_append_eq_of_le, BitVec.extractLsb'_append_eq_of_add_le,
    BitVec.extractLsb'_eq_self, Nat.reduceSub, and_self]

@[simp] theorem fields_encI :
    fOpcode (encI imm12 rs1 f3 rd op) = op ∧ fRd (encI imm12 rs1 f3 rd op) = rd
      ∧ fFunct3 (encI imm12 rs1 f3 rd op) = f3 ∧ fRs1 (encI imm12 rs1 f3 rd op) = rs1
      ∧ fImm12 (encI imm12 rs1 f3 rd op) = imm12 ∧ immI (encI imm12 rs1 f3 rd op) = imm12.signExtend 32 := by
  unfold immI encI fOpcode fRd fFunct3 fRs1 fImm12
  simp (disch := decide) only [BitVec.extractLsb'_append_eq_of_le, BitVec.extractLsb'_append_eq_of_add_le,
    BitVec.extractLsb'_eq_self, Nat.reduceSub, and_self]

@[simp] theorem fields_encS :
    fOpcode (encS imm rs2 rs1 f3) = 0x23#7 ∧ fFunct3 (encS imm rs2 rs1 f3) = f3 ∧ fRs1 (encS imm rs2 rs1 f3) = rs1
      ∧ fRs2 (encS imm rs2 rs1 f3) = rs2 ∧ immS (encS imm rs2 rs1 f3) = (low12 imm).signExtend 32 := by
  unfold immS low12 encS fOpcode fFunct3 fRs1 fRs2
  simp (disch := decide) only [BitVec.extractLsb'_append_eq_of_le, BitVec.extractLsb'_append_eq_of_add_le,
    BitVec.extractLsb'_eq_self, BitVec.extractLsb'_append_extractLsb'_eq_extractLsb', Nat.reduceSub, and_self]

@[simp] theorem fields_encB :
    fOpcode (encB imm rs2 rs1 f3) = 0x63#7 ∧ fFunct3 (encB imm rs2 rs1 f3) = f3 ∧ fRs1 (encB imm rs2 rs1 f3) = rs1
      ∧ fRs2 (encB imm rs2 rs1 f3) = rs2
      ∧ immB (encB imm rs2 rs1 f3) = (imm.extractLsb' 1 12 ++ 0#1).signExtend 32 := by
  unfold immB encB fOpcode fFunct3 fRs1 fRs2
  simp (disch := decide) only [BitVec.extractLsb'_append_eq_of_le, BitVec.extractLsb'_append_eq_of_add_le,
    BitVec.extractLsb'_eq_self, BitVec.extractLsb'_append_extractLsb'_eq_extractLsb', Nat.reduceSub, and_self]

@[simp] theorem fields_encU :
    fOpcode (encU imm rd op) = op ∧ fRd (encU imm rd op) = rd
      ∧ immU (encU imm rd op) = imm.extractLsb' 12 20 ++ 0#12 := by
  unfold immU encU fOpcode fRd
  simp (disch := decide) only [BitVec.extractLsb'_append_eq_of_le, BitVec.extractLsb'_append_eq_of_add_le,
    BitVec.extractLsb'_eq_self, Nat.reduceSub, and_self]

@[simp] theorem fields_encJ :
    fOpcode (encJ imm rd) = 0x6f#7 ∧ fRd (encJ imm rd) = rd
      ∧ immJ (encJ imm rd) = (imm.extractLsb' 1 20 ++ 0#1).signExtend 32 := by
  unfold immJ encJ fOpcode fRd
  simp (disch := decide) only [BitVec.extractLsb'_append_eq_of_le, BitVec.extractLsb'_append_eq_of_add_le,
    BitVec.extractLsb'_eq_self, BitVec.extractLsb'_append_extractLsb'_eq_extractLsb', Nat.reduceSub, and_self]

@[simp] theorem fields_encAmo :
    fOpcode (encAmo f5 aq rl rs2 rs1 rd) = 0x2f#7 ∧ fRd (encAmo f5 aq rl rs2 rs1 rd) = rd
      ∧ fRs1 (encAmo f5 aq rl rs2 rs1 rd) = rs1 ∧ fRs2 (encAmo f5 aq rl rs2 rs1 rd) = rs2
      ∧ fFunct5 (encAmo f5 aq rl rs2 rs1 rd) = f5 ∧ fAq (encAmo f5 aq rl rs2 rs1 rd) = aq
      ∧ fRl (encAmo f5 aq rl rs2 rs1 rd) = rl := by
  unfold encAmo fOpcode fRd fRs1 fRs2 fFunct5 fAq fRl
  simp (disch := decide) only [BitVec.extractLsb'_append_eq_of_le, BitVec.extractLsb'_append_eq_of_add_le,
    BitVec.extractLsb'_eq_self, BitVec.getLsbD_append, Nat.reduceSub, Nat.reduceLT, reduceIte, true_and]
  simp

@[simp] theorem fence_fields_encI (fm pred succ : BitVec 4) :
    (encI (fm ++ pred ++ succ) rs1 f3 rd op).extractLsb' 28 4 = fm
      ∧ (encI (fm ++ pred ++ succ) rs1 f3 rd op).extractLsb' 24 4 = pred
      ∧ (encI (fm ++ pred ++ succ) rs1 f3 rd op).extractLsb' 20 4 = succ := by
  unfold encI
  simp (disch := decide) only [BitVec.extractLsb'_append_eq_of_le, BitVec.extractLsb'_append_eq_of_add_le,
    BitVec.extractLsb'_eq_self, Nat.reduceSub, and_self]

end

/-! ### The ranges of the immediates (R113 to R117) -/

section
variable {imm : Word}

theorem immFits12_iff : immFits12 imm = true ↔ -2048 ≤ imm.toInt ∧ imm.toInt ≤ 2047 := by
  simp [immFits12]

theorem immFitsB_iff : immFitsB imm = true ↔ imm.toInt % 2 = 0 ∧ -4096 ≤ imm.toInt ∧ imm.toInt ≤ 4094 := by
  simp [immFitsB, and_assoc]

theorem immFitsU_iff : immFitsU imm = true ↔ imm.toNat % 4096 = 0 := by
  simp [immFitsU]

theorem immFitsJ_iff :
    immFitsJ imm = true ↔ imm.toInt % 2 = 0 ∧ -1048576 ≤ imm.toInt ∧ imm.toInt ≤ 1048574 := by
  simp [immFitsJ, and_assoc]

end

/-! ### The decoder reads an immediate of the range -/

theorem immFits12_signExtend (v : BitVec 12) : immFits12 (v.signExtend 32) = true := by
  rw [immFits12_iff, BitVec.toInt_signExtend_of_le (by decide)]
  have hlo := v.le_toInt
  have hhi := v.toInt_lt
  omega

theorem immFits12_immI (w : Word) : immFits12 (immI w) = true := immFits12_signExtend _

theorem immFits12_immS (w : Word) : immFits12 (immS w) = true := immFits12_signExtend _

theorem immFitsB_signExtend (v : BitVec 12) : immFitsB ((v ++ 0#1).signExtend 32) = true := by
  rw [immFitsB_iff, BitVec.toInt_signExtend_of_le (by decide), BitVec.toInt_append_zero]
  have hlo := v.le_toInt
  have hhi := v.toInt_lt
  omega

theorem immFitsB_immB (w : Word) : immFitsB (immB w) = true := immFitsB_signExtend _

theorem immFitsU_immU (w : Word) : immFitsU (immU w) = true := by
  rw [immFitsU_iff, immU, BitVec.toNat_append]
  simp [Nat.shiftLeft_eq]

theorem immFitsJ_signExtend (v : BitVec 20) : immFitsJ ((v ++ 0#1).signExtend 32) = true := by
  rw [immFitsJ_iff, BitVec.toInt_signExtend_of_le (by decide), BitVec.toInt_append_zero]
  have hlo := v.le_toInt
  have hhi := v.toInt_lt
  omega

theorem immFitsJ_immJ (w : Word) : immFitsJ (immJ w) = true := immFitsJ_signExtend _

/-! ### The bits the format keeps of an immediate of the range give it back -/

section
variable {imm : Word}

theorem signExtend_low12_of_fits (h : immFits12 imm = true) : (low12 imm).signExtend 32 = imm := by
  obtain ⟨hlo, hhi⟩ := immFits12_iff.1 h
  apply BitVec.eq_of_toInt_eq
  rw [low12, BitVec.toInt_signExtend_of_le (by decide), BitVec.toInt_eq_toNat_cond, BitVec.extractLsb'_toNat,
    Nat.shiftRight_eq_div_pow]
  rw [BitVec.toInt_eq_toNat_cond] at *
  omega

theorem signExtend_append_of_fitsB (h : immFitsB imm = true) :
    (imm.extractLsb' 1 12 ++ 0#1).signExtend 32 = imm := by
  obtain ⟨heven, hlo, hhi⟩ := immFitsB_iff.1 h
  apply BitVec.eq_of_toInt_eq
  rw [BitVec.toInt_signExtend_of_le (by decide), BitVec.toInt_append_zero, BitVec.toInt_eq_toNat_cond,
    BitVec.extractLsb'_toNat, Nat.shiftRight_eq_div_pow]
  rw [BitVec.toInt_eq_toNat_cond] at *
  omega

theorem append_of_fitsU (h : immFitsU imm = true) : imm.extractLsb' 12 20 ++ 0#12 = imm := by
  have hlow := immFitsU_iff.1 h
  have hlt := imm.isLt
  apply BitVec.eq_of_toNat_eq
  rw [BitVec.toNat_append, BitVec.toNat_ofNat, Nat.zero_mod, Nat.or_zero, BitVec.extractLsb'_toNat, Nat.shiftLeft_eq,
    Nat.shiftRight_eq_div_pow]
  omega

theorem signExtend_append_of_fitsJ (h : immFitsJ imm = true) :
    (imm.extractLsb' 1 20 ++ 0#1).signExtend 32 = imm := by
  obtain ⟨heven, hlo, hhi⟩ := immFitsJ_iff.1 h
  apply BitVec.eq_of_toInt_eq
  rw [BitVec.toInt_signExtend_of_le (by decide), BitVec.toInt_append_zero, BitVec.toInt_eq_toNat_cond,
    BitVec.extractLsb'_toNat, Nat.shiftRight_eq_div_pow]
  rw [BitVec.toInt_eq_toNat_cond] at *
  omega

end

end Sys2Proof
end

section
/-!
SUPPORT. Decoding by rows (spec/30_encoding.md R121 to R126, R131): a word decodes to an instruction of a row exactly when it
has the row's key bits, and the operands are then the word's fields in the row's format.
-/

namespace Sys2Proof

/-- The bits that select the instruction's row: its major opcode and the function fields R122 to R126 read for it. -/
def Instr.keyMask : Instr → Word
  | .lui _ _ | .auipc _ _ | .jal _ _ | .jalr _ _ _ => 0x0000007f#32
  | .lb _ _ _ | .lh _ _ _ | .lw _ _ _ | .lbu _ _ _ | .lhu _ _ _ | .sb _ _ _ | .sh _ _ _ | .sw _ _ _ => 0x0000707f#32
  | .addi _ _ _ | .slti _ _ _ | .sltiu _ _ _ | .xori _ _ _ | .ori _ _ _ | .andi _ _ _ | .slli _ _ _ => 0x0000707f#32
  | .srli _ _ _ | .srai _ _ _ => 0x4000707f#32
  | .add _ _ _ | .sub _ _ _ | .srl _ _ _ | .sra _ _ _ => 0x4200707f#32
  | .sll _ _ _ | .slt _ _ _ | .sltu _ _ _ | .xor _ _ _ | .or _ _ _ | .and _ _ _ => 0x0200707f#32
  | .mul _ _ _ | .mulh _ _ _ | .mulhsu _ _ _ | .mulhu _ _ _ => 0x0200707f#32
  | .div _ _ _ | .divu _ _ _ | .rem _ _ _ | .remu _ _ _ => 0x0200707f#32
  | .beq _ _ _ | .bne _ _ _ | .blt _ _ _ | .bge _ _ _ | .bltu _ _ _ | .bgeu _ _ _ => 0x0000707f#32
  | .lrW _ _ _ _ | .scW _ _ _ _ _ | .amoswapW _ _ _ _ _ | .amoaddW _ _ _ _ _ | .amoxorW _ _ _ _ _ => 0xf800007f#32
  | .amoandW _ _ _ _ _ | .amoorW _ _ _ _ _ | .amominW _ _ _ _ _ | .amomaxW _ _ _ _ _ => 0xf800007f#32
  | .amominuW _ _ _ _ _ | .amomaxuW _ _ _ _ _ => 0xf800007f#32
  | .fence _ _ _ | .fenceI => 0x0000707f#32
  | .miscMemF2 | .miscMemF3 | .miscMemF4 | .miscMemF5 | .miscMemF6 | .miscMemF7 => 0x0000707f#32
  | .ecall | .ebreak | .wfi => 0xfff0707f#32
  | .mret => 0x0ff0707f#32
  | .csrrw _ _ _ | .csrrs _ _ _ | .csrrc _ _ _ | .csrrwi _ _ _ | .csrrsi _ _ _ | .csrrci _ _ _ => 0x0000707f#32

/-- The word has the key bits of the instruction's row. -/
def SelectsRow (w : Word) (i : Instr) : Prop := w &&& i.keyMask = encode i &&& i.keyMask

/-- The instruction of the same row whose operands are the fields of `w` in the row's format (R112). -/
def Instr.readFrom (w : Word) : Instr → Instr
  | .lui _ _ => .lui (fRd w) (immU w)
  | .auipc _ _ => .auipc (fRd w) (immU w)
  | .lb _ _ _ => .lb (fRd w) (fRs1 w) (immI w)
  | .lh _ _ _ => .lh (fRd w) (fRs1 w) (immI w)
  | .lw _ _ _ => .lw (fRd w) (fRs1 w) (immI w)
  | .lbu _ _ _ => .lbu (fRd w) (fRs1 w) (immI w)
  | .lhu _ _ _ => .lhu (fRd w) (fRs1 w) (immI w)
  | .sb _ _ _ => .sb (fRs1 w) (fRs2 w) (immS w)
  | .sh _ _ _ => .sh (fRs1 w) (fRs2 w) (immS w)
  | .sw _ _ _ => .sw (fRs1 w) (fRs2 w) (immS w)
  | .addi _ _ _ => .addi (fRd w) (fRs1 w) (immI w)
  | .slti _ _ _ => .slti (fRd w) (fRs1 w) (immI w)
  | .sltiu _ _ _ => .sltiu (fRd w) (fRs1 w) (immI w)
  | .xori _ _ _ => .xori (fRd w) (fRs1 w) (immI w)
  | .ori _ _ _ => .ori (fRd w) (fRs1 w) (immI w)
  | .andi _ _ _ => .andi (fRd w) (fRs1 w) (immI w)
  | .slli _ _ _ => .slli (fRd w) (fRs1 w) (fRs2 w)
  | .srli _ _ _ => .srli (fRd w) (fRs1 w) (fRs2 w)
  | .srai _ _ _ => .srai (fRd w) (fRs1 w) (fRs2 w)
  | .add _ _ _ => .add (fRd w) (fRs1 w) (fRs2 w)
  | .sub _ _ _ => .sub (fRd w) (fRs1 w) (fRs2 w)
  | .sll _ _ _ => .sll (fRd w) (fRs1 w) (fRs2 w)
  | .slt _ _ _ => .slt (fRd w) (fRs1 w) (fRs2 w)
  | .sltu _ _ _ => .sltu (fRd w) (fRs1 w) (fRs2 w)
  | .xor _ _ _ => .xor (fRd w) (fRs1 w) (fRs2 w)
  | .or _ _ _ => .or (fRd w) (fRs1 w) (fRs2 w)
  | .and _ _ _ => .and (fRd w) (fRs1 w) (fRs2 w)
  | .srl _ _ _ => .srl (fRd w) (fRs1 w) (fRs2 w)
  | .sra _ _ _ => .sra (fRd w) (fRs1 w) (fRs2 w)
  | .mul _ _ _ => .mul (fRd w) (fRs1 w) (fRs2 w)
  | .mulh _ _ _ => .mulh (fRd w) (fRs1 w) (fRs2 w)
  | .mulhsu _ _ _ => .mulhsu (fRd w) (fRs1 w) (fRs2 w)
  | .mulhu _ _ _ => .mulhu (fRd w) (fRs1 w) (fRs2 w)
  | .div _ _ _ => .div (fRd w) (fRs1 w) (fRs2 w)
  | .divu _ _ _ => .divu (fRd w) (fRs1 w) (fRs2 w)
  | .rem _ _ _ => .rem (fRd w) (fRs1 w) (fRs2 w)
  | .remu _ _ _ => .remu (fRd w) (fRs1 w) (fRs2 w)
  | .beq _ _ _ => .beq (fRs1 w) (fRs2 w) (immB w)
  | .bne _ _ _ => .bne (fRs1 w) (fRs2 w) (immB w)
  | .blt _ _ _ => .blt (fRs1 w) (fRs2 w) (immB w)
  | .bge _ _ _ => .bge (fRs1 w) (fRs2 w) (immB w)
  | .bltu _ _ _ => .bltu (fRs1 w) (fRs2 w) (immB w)
  | .bgeu _ _ _ => .bgeu (fRs1 w) (fRs2 w) (immB w)
  | .jal _ _ => .jal (fRd w) (immJ w)
  | .jalr _ _ _ => .jalr (fRd w) (fRs1 w) (immI w)
  | .lrW _ _ _ _ => .lrW (fRd w) (fRs1 w) (fAq w) (fRl w)
  | .scW _ _ _ _ _ => .scW (fRd w) (fRs1 w) (fRs2 w) (fAq w) (fRl w)
  | .amoswapW _ _ _ _ _ => .amoswapW (fRd w) (fRs1 w) (fRs2 w) (fAq w) (fRl w)
  | .amoaddW _ _ _ _ _ => .amoaddW (fRd w) (fRs1 w) (fRs2 w) (fAq w) (fRl w)
  | .amoxorW _ _ _ _ _ => .amoxorW (fRd w) (fRs1 w) (fRs2 w) (fAq w) (fRl w)
  | .amoandW _ _ _ _ _ => .amoandW (fRd w) (fRs1 w) (fRs2 w) (fAq w) (fRl w)
  | .amoorW _ _ _ _ _ => .amoorW (fRd w) (fRs1 w) (fRs2 w) (fAq w) (fRl w)
  | .amominW _ _ _ _ _ => .amominW (fRd w) (fRs1 w) (fRs2 w) (fAq w) (fRl w)
  | .amomaxW _ _ _ _ _ => .amomaxW (fRd w) (fRs1 w) (fRs2 w) (fAq w) (fRl w)
  | .amominuW _ _ _ _ _ => .amominuW (fRd w) (fRs1 w) (fRs2 w) (fAq w) (fRl w)
  | .amomaxuW _ _ _ _ _ => .amomaxuW (fRd w) (fRs1 w) (fRs2 w) (fAq w) (fRl w)
  | .fence _ _ _ => .fence (w.extractLsb' 28 4) (w.extractLsb' 24 4) (w.extractLsb' 20 4)
  | .fenceI => .fenceI
  | .miscMemF2 => .miscMemF2
  | .miscMemF3 => .miscMemF3
  | .miscMemF4 => .miscMemF4
  | .miscMemF5 => .miscMemF5
  | .miscMemF6 => .miscMemF6
  | .miscMemF7 => .miscMemF7
  | .ecall => .ecall
  | .ebreak => .ebreak
  | .mret => .mret
  | .wfi => .wfi
  | .csrrw _ _ _ => .csrrw (fRd w) (fRs1 w) (fImm12 w)
  | .csrrs _ _ _ => .csrrs (fRd w) (fRs1 w) (fImm12 w)
  | .csrrc _ _ _ => .csrrc (fRd w) (fRs1 w) (fImm12 w)
  | .csrrwi _ _ _ => .csrrwi (fRd w) (fRs1 w) (fImm12 w)
  | .csrrsi _ _ _ => .csrrsi (fRd w) (fRs1 w) (fImm12 w)
  | .csrrci _ _ _ => .csrrci (fRd w) (fRs1 w) (fImm12 w)

/-! ### Words that agree under a mask -/

section
variable {m a b w v : Word}

/-- Words that agree under a mask have every field under it in common. -/
theorem extractLsb'_eq_of_and_eq (k n : Nat) (hm : m.extractLsb' k n = BitVec.allOnes n) (h : w &&& m = v &&& m) :
    w.extractLsb' k n = v.extractLsb' k n := by
  have hfield := congrArg (BitVec.extractLsb' k n) h
  rwa [BitVec.extractLsb'_and, BitVec.extractLsb'_and, hm, BitVec.and_allOnes, BitVec.and_allOnes] at hfield

/-- Words with a field in common agree under the field's mask. -/
theorem and_eq_of_extractLsb'_eq (k n : Nat) (h : w.extractLsb' k n = v.extractLsb' k n) :
    w &&& ((BitVec.allOnes n).setWidth 32 <<< k) = v &&& ((BitVec.allOnes n).setWidth 32 <<< k) := by
  apply BitVec.eq_of_getLsbD_eq
  intro b hb
  rw [BitVec.getLsbD_and, BitVec.getLsbD_and]
  by_cases hin : k ≤ b ∧ b - k < n
  · obtain ⟨hk, hn⟩ := hin
    have hbit : w.getLsbD b = v.getLsbD b := by
      simpa [hn, Nat.add_sub_cancel' hk] using congrArg (fun f => f.getLsbD (b - k)) h
    rw [hbit]
  · have hout : ((BitVec.allOnes n).setWidth 32 <<< k).getLsbD b = false := by
      obtain hk | hn := not_and_or.1 hin
      · simp [Nat.lt_of_not_le hk]
      · simp [hn]
    rw [hout, Bool.and_false, Bool.and_false]

/-- Words that agree under a mask agree under every part of it. -/
theorem and_eq_of_submask (hab : a &&& b = b) (h : w &&& a = v &&& a) : w &&& b = v &&& b := by
  rw [← hab, ← BitVec.and_assoc, h, BitVec.and_assoc]

/-- To agree under the union of a mask and a field's mask is to agree under the mask and in the field. -/
theorem and_or_eq_iff (k n : Nat) (hm : (BitVec.allOnes n).setWidth 32 <<< k = b)
    (hf : (a ||| b).extractLsb' k n = BitVec.allOnes n) (hab : (a ||| b) &&& a = a) :
    w &&& (a ||| b) = v &&& (a ||| b) ↔ w &&& a = v &&& a ∧ w.extractLsb' k n = v.extractLsb' k n := by
  constructor
  · intro h
    exact ⟨and_eq_of_submask hab h, extractLsb'_eq_of_and_eq k n hf h⟩
  · rintro ⟨ha, hfield⟩
    have hb : w &&& b = v &&& b := hm ▸ and_eq_of_extractLsb'_eq k n hfield
    rw [BitVec.and_or_distrib_left, BitVec.and_or_distrib_left, ha, hb]

theorem agree_opcode_iff : w &&& 0x0000007f#32 = v &&& 0x0000007f#32 ↔ fOpcode w = fOpcode v :=
  ⟨extractLsb'_eq_of_and_eq 0 7 (by decide), and_eq_of_extractLsb'_eq 0 7⟩

theorem agree_opcode_funct3_iff :
    w &&& 0x0000707f#32 = v &&& 0x0000707f#32 ↔ fOpcode w = fOpcode v ∧ fFunct3 w = fFunct3 v :=
  (and_or_eq_iff (a := 0x7f#32) (b := 0x7000#32) 12 3 (by decide) (by decide) (by decide)).trans
    (and_congr_left' agree_opcode_iff)

theorem agree_opcode_funct3_bit30_iff :
    w &&& 0x4000707f#32 = v &&& 0x4000707f#32
      ↔ (fOpcode w = fOpcode v ∧ fFunct3 w = fFunct3 v) ∧ fBit30 w = fBit30 v :=
  (and_or_eq_iff (a := 0x707f#32) (b := 0x40000000#32) 30 1 (by decide) (by decide) (by decide)).trans
    (and_congr_left' agree_opcode_funct3_iff)

theorem agree_opcode_funct3_bit25_iff :
    w &&& 0x0200707f#32 = v &&& 0x0200707f#32
      ↔ (fOpcode w = fOpcode v ∧ fFunct3 w = fFunct3 v) ∧ fBit25 w = fBit25 v :=
  (and_or_eq_iff (a := 0x707f#32) (b := 0x02000000#32) 25 1 (by decide) (by decide) (by decide)).trans
    (and_congr_left' agree_opcode_funct3_iff)

theorem agree_opcode_funct3_bits_iff :
    w &&& 0x4200707f#32 = v &&& 0x4200707f#32
      ↔ ((fOpcode w = fOpcode v ∧ fFunct3 w = fFunct3 v) ∧ fBit25 w = fBit25 v) ∧ fBit30 w = fBit30 v :=
  (and_or_eq_iff (a := 0x0200707f#32) (b := 0x40000000#32) 30 1 (by decide) (by decide) (by decide)).trans
    (and_congr_left' agree_opcode_funct3_bit25_iff)

theorem agree_opcode_funct5_iff :
    w &&& 0xf800007f#32 = v &&& 0xf800007f#32 ↔ fOpcode w = fOpcode v ∧ fFunct5 w = fFunct5 v :=
  (and_or_eq_iff (a := 0x7f#32) (b := 0xf8000000#32) 27 5 (by decide) (by decide) (by decide)).trans
    (and_congr_left' agree_opcode_iff)

theorem agree_opcode_funct3_imm12_iff :
    w &&& 0xfff0707f#32 = v &&& 0xfff0707f#32
      ↔ (fOpcode w = fOpcode v ∧ fFunct3 w = fFunct3 v) ∧ fImm12 w = fImm12 v :=
  (and_or_eq_iff (a := 0x707f#32) (b := 0xfff00000#32) 20 12 (by decide) (by decide) (by decide)).trans
    (and_congr_left' agree_opcode_funct3_iff)

theorem extractLsb'_fImm12 (w : Word) : (fImm12 w).extractLsb' 0 8 = w.extractLsb' 20 8 := by
  apply BitVec.eq_of_toNat_eq
  simp only [fImm12, BitVec.extractLsb'_toNat]
  omega

/-- MRET's row reads the low eight bits of `imm12` only (R124). -/
theorem agree_opcode_funct3_imm8_iff :
    w &&& 0x0ff0707f#32 = v &&& 0x0ff0707f#32
      ↔ (fOpcode w = fOpcode v ∧ fFunct3 w = fFunct3 v)
        ∧ (fImm12 w).extractLsb' 0 8 = (fImm12 v).extractLsb' 0 8 := by
  rw [extractLsb'_fImm12, extractLsb'_fImm12]
  exact (and_or_eq_iff (a := 0x707f#32) (b := 0x0ff00000#32) 20 8 (by decide) (by decide) (by decide)).trans
    (and_congr_left' agree_opcode_funct3_iff)

end

/-! ### A word with the key bits of a row decodes to the row's instruction -/

section
variable {w : Word} {i : Instr}

/-- The key bits alone decide the row; every other bit the format reads is an operand (R121 to R126). -/
theorem decode_of_selectsRow (h : SelectsRow w i) : decode w = .ok (i.readFrom w) := by
  cases i <;> dsimp only [SelectsRow, Instr.keyMask, encode, encMiscMem] at h
  case lui | auipc | jal | jalr =>
    simp only [agree_opcode_iff, fields_encU, fields_encJ, fields_encI] at h
    simp [decode, h, Instr.readFrom]
  case lb | lh | lw | lbu | lhu | sb | sh | sw | beq | bne | blt | bge | bltu | bgeu =>
    simp only [agree_opcode_funct3_iff, fields_encI, fields_encS, fields_encB] at h
    simp [decode, decodeLoad, decodeStore, decodeBranch, h, Instr.readFrom]
  case addi | slti | sltiu | xori | ori | andi | slli =>
    simp only [agree_opcode_funct3_iff, fields_encI, fields_encR] at h
    simp [decode, decodeOpImm, h, Instr.readFrom]
  case srli | srai =>
    simp only [agree_opcode_funct3_bit30_iff, fields_encR] at h
    simp [decode, decodeOpImm, h, Instr.readFrom]
  case add | sub | srl | sra =>
    simp only [agree_opcode_funct3_bits_iff, fields_encR] at h
    simp [decode, decodeOp, decodeOpBase, h, Instr.readFrom]
  case sll | slt | sltu | xor | or | and | mul | mulh | mulhsu | mulhu | div | divu | rem | remu =>
    simp only [agree_opcode_funct3_bit25_iff, fields_encR] at h
    simp [decode, decodeOp, decodeOpBase, decodeMulDiv, h, Instr.readFrom]
  case lrW | scW | amoswapW | amoaddW | amoxorW | amoandW | amoorW | amominW | amomaxW | amominuW | amomaxuW =>
    simp only [agree_opcode_funct5_iff, fields_encAmo] at h
    simp [decode, decodeAmo, h, Instr.readFrom]
  case fence | fenceI | miscMemF2 | miscMemF3 | miscMemF4 | miscMemF5 | miscMemF6 | miscMemF7 =>
    simp only [agree_opcode_funct3_iff, fields_encI] at h
    simp [decode, decodeMiscMem, h, Instr.readFrom]
  case ecall | ebreak | wfi =>
    simp only [agree_opcode_funct3_imm12_iff, fields_encI] at h
    simp [decode, decodeSystem, decodeSystemFn, h, Instr.readFrom]
  case mret =>
    simp only [agree_opcode_funct3_imm8_iff, fields_encI] at h
    have hwfi : fImm12 w ≠ 0x105#12 := by
      rintro heq
      simp [heq] at h
    simp [decode, decodeSystem, decodeSystemFn, h, hwfi, Instr.readFrom]
  case csrrw | csrrs | csrrc | csrrwi | csrrsi | csrrci =>
    simp only [agree_opcode_funct3_iff, fields_encI] at h
    simp [decode, decodeSystem, h, Instr.readFrom]

end

/-! ### A decoded word has the key bits of its row -/

section
variable {w : Word} {i : Instr}

theorem bit_cases (b : BitVec 1) : b = 0#1 ∨ b = 1#1 := by
  revert b
  decide

theorem funct3_cases (f : BitVec 3) :
    f = 0#3 ∨ f = 1#3 ∨ f = 2#3 ∨ f = 3#3 ∨ f = 4#3 ∨ f = 5#3 ∨ f = 6#3 ∨ f = 7#3 := by
  revert f
  decide

theorem selectsRow_of_decodeLoad (ho : fOpcode w = 0x03#7) (h : decodeLoad w = .ok i) : SelectsRow w i := by
  unfold decodeLoad at h
  split at h <;> cases h
  all_goals next hf => exact agree_opcode_funct3_iff.2 (by simp only [encode, fields_encI, ho, hf, and_self])

theorem selectsRow_of_decodeStore (ho : fOpcode w = 0x23#7) (h : decodeStore w = .ok i) : SelectsRow w i := by
  unfold decodeStore at h
  split at h <;> cases h
  all_goals next hf => exact agree_opcode_funct3_iff.2 (by simp only [encode, fields_encS, ho, hf, and_self])

theorem selectsRow_of_decodeBranch (ho : fOpcode w = 0x63#7) (h : decodeBranch w = .ok i) : SelectsRow w i := by
  unfold decodeBranch at h
  split at h <;> cases h
  all_goals next hf => exact agree_opcode_funct3_iff.2 (by simp only [encode, fields_encB, ho, hf, and_self])

theorem selectsRow_decodeOpImm (ho : fOpcode w = 0x13#7) : SelectsRow w (decodeOpImm w) := by
  obtain hb | hb := bit_cases (fBit30 w)
  all_goals
    obtain hf | hf | hf | hf | hf | hf | hf | hf := funct3_cases (fFunct3 w)
    all_goals
      simp [decodeOpImm, SelectsRow, Instr.keyMask, encode, agree_opcode_funct3_iff, agree_opcode_funct3_bit30_iff, ho,
        hf, hb]

theorem selectsRow_decodeMulDiv (ho : fOpcode w = 0x33#7) (hm : fBit25 w = 1#1) : SelectsRow w (decodeMulDiv w) := by
  obtain hf | hf | hf | hf | hf | hf | hf | hf := funct3_cases (fFunct3 w)
  all_goals simp [decodeMulDiv, SelectsRow, Instr.keyMask, encode, agree_opcode_funct3_bit25_iff, ho, hf, hm]

theorem selectsRow_decodeOpBase (ho : fOpcode w = 0x33#7) (hm : fBit25 w = 0#1) : SelectsRow w (decodeOpBase w) := by
  obtain hb | hb := bit_cases (fBit30 w)
  all_goals
    obtain hf | hf | hf | hf | hf | hf | hf | hf := funct3_cases (fFunct3 w)
    all_goals
      simp [decodeOpBase, SelectsRow, Instr.keyMask, encode, agree_opcode_funct3_bit25_iff, agree_opcode_funct3_bits_iff,
        ho, hf, hm, hb]

theorem selectsRow_decodeOp (ho : fOpcode w = 0x33#7) : SelectsRow w (decodeOp w) := by
  obtain hm | hm := bit_cases (fBit25 w)
  · simpa [decodeOp, hm] using selectsRow_decodeOpBase ho hm
  · simpa [decodeOp, hm] using selectsRow_decodeMulDiv ho hm

theorem selectsRow_decodeMiscMem (ho : fOpcode w = 0x0f#7) : SelectsRow w (decodeMiscMem w) := by
  obtain hf | hf | hf | hf | hf | hf | hf | hf := funct3_cases (fFunct3 w)
  all_goals simp [decodeMiscMem, SelectsRow, Instr.keyMask, encode, encMiscMem, agree_opcode_funct3_iff, ho, hf]

theorem selectsRow_of_decodeSystemFn (ho : fOpcode w = 0x73#7) (hf : fFunct3 w = 0#3)
    (h : decodeSystemFn w = .ok i) : SelectsRow w i := by
  unfold decodeSystemFn at h
  split_ifs at h with hwfi hmret hecall hebreak <;> cases h
  · exact agree_opcode_funct3_imm12_iff.2 (by simp only [encode, fields_encI, ho, hf, hwfi, and_self])
  · exact agree_opcode_funct3_imm8_iff.2 (by simp [encode, ho, hf, hmret])
  · exact agree_opcode_funct3_imm12_iff.2 (by simp only [encode, fields_encI, ho, hf, hecall, and_self])
  · exact agree_opcode_funct3_imm12_iff.2 (by simp only [encode, fields_encI, ho, hf, hebreak, and_self])

theorem selectsRow_of_decodeSystem (ho : fOpcode w = 0x73#7) (h : decodeSystem w = .ok i) : SelectsRow w i := by
  unfold decodeSystem at h
  split at h
  · next hf => exact selectsRow_of_decodeSystemFn ho hf h
  all_goals cases h
  all_goals next hf => exact agree_opcode_funct3_iff.2 (by simp only [encode, fields_encI, ho, hf, and_self])

theorem selectsRow_of_decodeAmo (ho : fOpcode w = 0x2f#7) (h : decodeAmo w = .ok i) : SelectsRow w i := by
  unfold decodeAmo at h
  split at h <;> cases h
  all_goals next hf => exact agree_opcode_funct5_iff.2 (by simp only [encode, fields_encAmo, ho, hf, and_self])

/-- Each major opcode's decoder reads the key bits of the row it answers (R121). -/
theorem selectsRow_of_decode (h : decode w = .ok i) : SelectsRow w i := by
  unfold decode at h
  split at h
  case h_1 ho | h_2 ho | h_3 ho | h_4 ho =>
    cases h
    exact agree_opcode_iff.2 (by simp only [encode, fields_encU, fields_encJ, fields_encI, ho])
  case h_5 ho => exact selectsRow_of_decodeBranch ho h
  case h_6 ho => exact selectsRow_of_decodeLoad ho h
  case h_7 ho => exact selectsRow_of_decodeStore ho h
  case h_8 ho =>
    cases h
    exact selectsRow_decodeOpImm ho
  case h_9 ho =>
    cases h
    exact selectsRow_decodeOp ho
  case h_10 ho =>
    cases h
    exact selectsRow_decodeMiscMem ho
  case h_11 ho => exact selectsRow_of_decodeSystem ho h
  case h_12 ho => exact selectsRow_of_decodeAmo ho h
  case h_13 => cases h

end

end Sys2Proof
end

section
/-!
SUPPORT. The encoding statements (spec/30_encoding.md R113 to R117, R131): decoding an encoded instruction, the range of the
immediates of what is decoded, and the rows of the opcode table.
-/

namespace Sys2Proof

variable {w : Word} {i : Instr} {r : OpcodeRow}

/-! ### Decoding as key bits and operands -/

/-- What a word decodes to: the instruction whose row its key bits select, with the word's own fields as operands. -/
theorem decode_eq_ok_iff : decode w = .ok i ↔ SelectsRow w i ∧ i.readFrom w = i := by
  constructor
  · intro h
    have hrow := selectsRow_of_decode h
    exact ⟨hrow, Except.ok.inj ((decode_of_selectsRow hrow).symm.trans h)⟩
  · rintro ⟨hrow, hread⟩
    exact (decode_of_selectsRow hrow).trans (congrArg Except.ok hread)

theorem selectsRow_encode (i : Instr) : SelectsRow (encode i) i := rfl

/-- The operands of a well-formed instruction are the fields of its word. -/
theorem readFrom_encode (h : i.WellFormed) : i.readFrom (encode i) = i := by
  cases i <;> dsimp only [Instr.readFrom, encode]
  case lui | auipc => simp [append_of_fitsU h]
  case jal => simp [signExtend_append_of_fitsJ h]
  case beq | bne | blt | bge | bltu | bgeu => simp [signExtend_append_of_fitsB h]
  case lb | lh | lw | lbu | lhu | addi | slti | sltiu | xori | ori | andi | jalr | sb | sh | sw =>
    simp [signExtend_low12_of_fits h]
  all_goals simp

theorem readFrom_wellFormed (w : Word) (i : Instr) : (i.readFrom w).WellFormed := by
  cases i
  case lui | auipc => exact immFitsU_immU w
  case jal => exact immFitsJ_immJ w
  case beq | bne | blt | bge | bltu | bgeu => exact immFitsB_immB w
  case lb | lh | lw | lbu | lhu | addi | slti | sltiu | xori | ori | andi | jalr => exact immFits12_immI w
  case sb | sh | sw => exact immFits12_immS w
  all_goals rfl

/-- Settles O1: an instruction's own word selects its row, and its fields are the operands. -/
theorem decodeOfEncodeIsIdentity : Obligations.DecodeOfEncodeIsIdentity :=
  fun i hwf => decode_eq_ok_iff.2 ⟨selectsRow_encode i, readFrom_encode hwf⟩

/-- Settles O2: what is decoded is read from the word's fields, whose immediates are of the range. -/
theorem decodedInstructionsAreWellFormed : Obligations.DecodedInstructionsAreWellFormed := by
  intro w i h
  obtain ⟨-, hread⟩ := decode_eq_ok_iff.1 h
  exact hread ▸ readFrom_wellFormed w i

/-! ### The rows of the opcode table (R131) -/

theorem rowMatches_iff : rowMatches r w = true ↔ w &&& r.mask = r.matchBits := by
  simp [rowMatches]

theorem keyMask_readFrom (w : Word) (i : Instr) : (i.readFrom w).keyMask = i.keyMask := by
  cases i <;> rfl

theorem mnemonic_readFrom (w : Word) (i : Instr) : (i.readFrom w).mnemonic = i.mnemonic := by
  cases i <;> rfl

/-- The match word of a row decodes to an instruction of the row, and the row's mask is that instruction's key. -/
theorem decode_matchBits : ∀ r ∈ opcodeTable,
    (decode r.matchBits).toOption.map (fun i => (i.mnemonic, i.keyMask)) = some (r.mnemonic, r.mask) := by
  decide

/-- A word that matches a row decodes to an instruction of the row, as the row's match word does. -/
theorem decode_of_rowMatches (hr : r ∈ opcodeTable) (h : rowMatches r w = true) :
    ∃ i, decode w = .ok i ∧ i.mnemonic = r.mnemonic ∧ i.keyMask = r.mask := by
  have hbits := decode_matchBits r hr
  cases hj : decode r.matchBits with
  | error e => simp [hj, Except.toOption] at hbits
  | ok j =>
    obtain ⟨hm, hk⟩ : j.mnemonic = r.mnemonic ∧ j.keyMask = r.mask := by simpa [hj, Except.toOption] using hbits
    have hsame : w &&& j.keyMask = r.matchBits &&& j.keyMask := by
      rw [hk, ← rowMatches_iff.1 h, BitVec.and_assoc, BitVec.and_self]
    have hrow : SelectsRow w j := hsame.trans (selectsRow_of_decode hj)
    exact ⟨_, decode_of_selectsRow hrow, (mnemonic_readFrom w j).trans hm, (keyMask_readFrom w j).trans hk⟩

/-- Every instruction's word is one its own row matches, whatever its operands. -/
theorem rowEncoding : ∀ i, Laws.RowEncoding.Statement i
  | .lui _ _ => Laws.RowEncoding.lui _ _
  | .auipc _ _ => Laws.RowEncoding.auipc _ _
  | .lb _ _ _ => Laws.RowEncoding.lb _ _ _
  | .lh _ _ _ => Laws.RowEncoding.lh _ _ _
  | .lw _ _ _ => Laws.RowEncoding.lw _ _ _
  | .lbu _ _ _ => Laws.RowEncoding.lbu _ _ _
  | .lhu _ _ _ => Laws.RowEncoding.lhu _ _ _
  | .sb _ _ _ => Laws.RowEncoding.sb _ _ _
  | .sh _ _ _ => Laws.RowEncoding.sh _ _ _
  | .sw _ _ _ => Laws.RowEncoding.sw _ _ _
  | .addi _ _ _ => Laws.RowEncoding.addi _ _ _
  | .slti _ _ _ => Laws.RowEncoding.slti _ _ _
  | .sltiu _ _ _ => Laws.RowEncoding.sltiu _ _ _
  | .xori _ _ _ => Laws.RowEncoding.xori _ _ _
  | .ori _ _ _ => Laws.RowEncoding.ori _ _ _
  | .andi _ _ _ => Laws.RowEncoding.andi _ _ _
  | .slli _ _ _ => Laws.RowEncoding.slli _ _ _
  | .srli _ _ _ => Laws.RowEncoding.srli _ _ _
  | .srai _ _ _ => Laws.RowEncoding.srai _ _ _
  | .add _ _ _ => Laws.RowEncoding.add _ _ _
  | .sub _ _ _ => Laws.RowEncoding.sub _ _ _
  | .sll _ _ _ => Laws.RowEncoding.sll _ _ _
  | .slt _ _ _ => Laws.RowEncoding.slt _ _ _
  | .sltu _ _ _ => Laws.RowEncoding.sltu _ _ _
  | .xor _ _ _ => Laws.RowEncoding.xor _ _ _
  | .or _ _ _ => Laws.RowEncoding.or _ _ _
  | .and _ _ _ => Laws.RowEncoding.and _ _ _
  | .srl _ _ _ => Laws.RowEncoding.srl _ _ _
  | .sra _ _ _ => Laws.RowEncoding.sra _ _ _
  | .mul _ _ _ => Laws.RowEncoding.mul _ _ _
  | .mulh _ _ _ => Laws.RowEncoding.mulh _ _ _
  | .mulhsu _ _ _ => Laws.RowEncoding.mulhsu _ _ _
  | .mulhu _ _ _ => Laws.RowEncoding.mulhu _ _ _
  | .div _ _ _ => Laws.RowEncoding.div _ _ _
  | .divu _ _ _ => Laws.RowEncoding.divu _ _ _
  | .rem _ _ _ => Laws.RowEncoding.rem _ _ _
  | .remu _ _ _ => Laws.RowEncoding.remu _ _ _
  | .beq _ _ _ => Laws.RowEncoding.beq _ _ _
  | .bne _ _ _ => Laws.RowEncoding.bne _ _ _
  | .blt _ _ _ => Laws.RowEncoding.blt _ _ _
  | .bge _ _ _ => Laws.RowEncoding.bge _ _ _
  | .bltu _ _ _ => Laws.RowEncoding.bltu _ _ _
  | .bgeu _ _ _ => Laws.RowEncoding.bgeu _ _ _
  | .jal _ _ => Laws.RowEncoding.jal _ _
  | .jalr _ _ _ => Laws.RowEncoding.jalr _ _ _
  | .lrW _ _ _ _ => Laws.RowEncoding.lrW _ _ _ _
  | .scW _ _ _ _ _ => Laws.RowEncoding.scW _ _ _ _ _
  | .amoswapW _ _ _ _ _ => Laws.RowEncoding.amoswapW _ _ _ _ _
  | .amoaddW _ _ _ _ _ => Laws.RowEncoding.amoaddW _ _ _ _ _
  | .amoxorW _ _ _ _ _ => Laws.RowEncoding.amoxorW _ _ _ _ _
  | .amoandW _ _ _ _ _ => Laws.RowEncoding.amoandW _ _ _ _ _
  | .amoorW _ _ _ _ _ => Laws.RowEncoding.amoorW _ _ _ _ _
  | .amominW _ _ _ _ _ => Laws.RowEncoding.amominW _ _ _ _ _
  | .amomaxW _ _ _ _ _ => Laws.RowEncoding.amomaxW _ _ _ _ _
  | .amominuW _ _ _ _ _ => Laws.RowEncoding.amominuW _ _ _ _ _
  | .amomaxuW _ _ _ _ _ => Laws.RowEncoding.amomaxuW _ _ _ _ _
  | .fence _ _ _ => Laws.RowEncoding.fence _ _ _
  | .fenceI => Laws.RowEncoding.fenceI
  | .miscMemF2 => Laws.RowEncoding.miscMemF2
  | .miscMemF3 => Laws.RowEncoding.miscMemF3
  | .miscMemF4 => Laws.RowEncoding.miscMemF4
  | .miscMemF5 => Laws.RowEncoding.miscMemF5
  | .miscMemF6 => Laws.RowEncoding.miscMemF6
  | .miscMemF7 => Laws.RowEncoding.miscMemF7
  | .ecall => Laws.RowEncoding.ecall
  | .ebreak => Laws.RowEncoding.ebreak
  | .mret => Laws.RowEncoding.mret
  | .wfi => Laws.RowEncoding.wfi
  | .csrrw _ _ _ => Laws.RowEncoding.csrrw _ _ _
  | .csrrs _ _ _ => Laws.RowEncoding.csrrs _ _ _
  | .csrrc _ _ _ => Laws.RowEncoding.csrrc _ _ _
  | .csrrwi _ _ _ => Laws.RowEncoding.csrrwi _ _ _
  | .csrrsi _ _ _ => Laws.RowEncoding.csrrsi _ _ _
  | .csrrci _ _ _ => Laws.RowEncoding.csrrci _ _ _

/-- A decoded word's row is in the table: the row that the instruction's own word matches has the instruction's key. -/
theorem rowMatches_of_decode (h : decode w = .ok i) :
    ∃ r ∈ opcodeTable, r.mnemonic = i.mnemonic ∧ rowMatches r w = true := by
  obtain ⟨r, hr, hm, henc⟩ := rowEncoding i
  obtain ⟨j, hj, -, hk⟩ := decode_of_rowMatches hr henc
  obtain rfl : i.readFrom (encode i) = j :=
    Except.ok.inj ((decode_of_selectsRow (selectsRow_encode i)).symm.trans hj)
  have hmask : i.keyMask = r.mask := (keyMask_readFrom _ i).symm.trans hk
  have hrow : w &&& r.mask = encode i &&& r.mask := hmask ▸ selectsRow_of_decode h
  exact ⟨r, hr, hm, rowMatches_iff.2 (hrow.trans (rowMatches_iff.1 henc))⟩

/-- Two rows that match one word are the same: the word decodes to one instruction, which fixes the mnemonic and the mask. -/
theorem row_unique {r' : OpcodeRow} (hr : r ∈ opcodeTable) (hr' : r' ∈ opcodeTable) (h : rowMatches r w = true)
    (h' : rowMatches r' w = true) : r' = r := by
  obtain ⟨i, hi, hname, hmask⟩ := decode_of_rowMatches hr h
  obtain ⟨j, hj, hname', hmask'⟩ := decode_of_rowMatches hr' h'
  obtain rfl : i = j := Except.ok.inj (hi.symm.trans hj)
  have hmasks : r'.mask = r.mask := hmask'.symm.trans hmask
  have hbits : r'.matchBits = r.matchBits := by rw [← rowMatches_iff.1 h, ← rowMatches_iff.1 h', hmasks]
  cases r
  cases r'
  exact OpcodeRow.mk.injEq .. ▸ ⟨hname'.symm.trans hname, hbits, hmasks⟩

/-- A word that decodes to no instruction matches no row. -/
theorem rowMatches_of_decode_error {e : Illegal} (h : decode w = .error e) (hr : r ∈ opcodeTable) :
    rowMatches r w = false := by
  rw [← Bool.not_eq_true]
  intro hm
  obtain ⟨i, hi, -⟩ := decode_of_rowMatches hr hm
  cases hi.symm.trans h

/-- Settles O3: an instruction's row is the one row that matches, and a row that matches gives an instruction. -/
theorem decodeAgreesWithOpcodeTable : Obligations.DecodeAgreesWithOpcodeTable := by
  intro w
  cases h : decode w with
  | ok i =>
    obtain ⟨r, hr, hname, hmatch⟩ := rowMatches_of_decode h
    exact .inl ⟨i, r, rfl, hr, hname, fun r' hr' => ⟨row_unique hr hr' hmatch, fun heq => heq ▸ hmatch⟩⟩
  | error e => exact .inr ⟨⟨e, rfl⟩, fun r hr => rowMatches_of_decode_error h hr⟩

end Sys2Proof
end

section
/-!
SUPPORT. The bits the decoder ignores (spec/30_encoding.md R127): they are none of the key bits of the row, and no operand that
the meaning reads. In six MISC-MEM rows they hold `funct3`, so the row may change, but every MISC-MEM row only advances the pc.
-/

namespace Sys2Proof.Machine

variable {m w w' : Word} {i : Instr}

/-- Every MISC-MEM instruction only advances the pc (R270 to R272). -/
theorem exec_decodeMiscMem (w : Word) (s : State) : exec (decodeMiscMem w) s = s.noOp := by
  unfold decodeMiscMem
  split <;> rfl

theorem decode_of_opcode_miscMem (ho : fOpcode w = 0x0f#7) : decode w = .ok (decodeMiscMem w) := by
  simp [decode, ho]

theorem agreeBut_zero (h : agreeBut 0#32 w w') : w = w' :=
  (BitVec.and_allOnes (x := w)).symm.trans (h.trans BitVec.and_allOnes)

/-- The ignored bits of a row are none of its key bits, but in the six MISC-MEM rows that ignore `funct3` too (R126). -/
theorem ignoredBits_disjoint (i : Instr) :
    ~~~ignoredBits i &&& i.keyMask = i.keyMask
      ∨ ignoredBits i = 0xffffff80#32 ∧ i.keyMask = 0x0000707f#32 ∧ fOpcode (encode i) = 0x0f#7 := by
  cases i
  case miscMemF2 | miscMemF3 | miscMemF4 | miscMemF5 | miscMemF6 | miscMemF7 => exact .inr ⟨rfl, rfl, by decide⟩
  all_goals
    left
    dsimp only [ignoredBits, Instr.keyMask]
    decide

/-- The three register fields lie outside the ignored bits `m` (R111). -/
theorem registers_eq_of_agreeBut (hm : ~~~m &&& 0x01ff8f80#32 = 0x01ff8f80#32) (h : agreeBut m w w') :
    fRd w = fRd w' ∧ fRs1 w = fRs1 w' ∧ fRs2 w = fRs2 w' := by
  have hregs := and_eq_of_submask hm h
  exact ⟨extractLsb'_eq_of_and_eq 7 5 (by decide) hregs, extractLsb'_eq_of_and_eq 15 5 (by decide) hregs,
    extractLsb'_eq_of_and_eq 20 5 (by decide) hregs⟩

/-- Words that agree but for a row's ignored bits have the same operands in it, up to those the meaning ignores. -/
theorem exec_readFrom_congr (i : Instr) (h : agreeBut (ignoredBits i) w w') (s : State) :
    exec (i.readFrom w) s = exec (i.readFrom w') s := by
  cases i <;> dsimp only [ignoredBits] at h
  case jalr =>
    obtain ⟨hrd, hrs1, -⟩ := registers_eq_of_agreeBut (by decide) h
    have himm : immI w = immI w' :=
      congrArg (BitVec.signExtend 32) (extractLsb'_eq_of_and_eq 20 12 (by decide) h)
    simp only [Instr.readFrom, hrd, hrs1, himm]
  case slli | srli | srai | add | sub | sll | slt | sltu | xor | or | and | srl | sra | mul | mulh | mulhsu
      | mulhu | div | divu | rem | remu =>
    obtain ⟨hrd, hrs1, hrs2⟩ := registers_eq_of_agreeBut (by decide) h
    simp only [Instr.readFrom, hrd, hrs1, hrs2]
  case scW | amoswapW | amoaddW | amoxorW | amoandW | amoorW | amominW | amomaxW | amominuW | amomaxuW =>
    obtain ⟨hrd, hrs1, hrs2⟩ := registers_eq_of_agreeBut (by decide) h
    simp only [Instr.readFrom, hrd, hrs1, hrs2]
    rfl
  case lrW =>
    have hrd : fRd w = fRd w' := extractLsb'_eq_of_and_eq 7 5 (by decide) h
    have hrs1 : fRs1 w = fRs1 w' := extractLsb'_eq_of_and_eq 15 5 (by decide) h
    simp only [Instr.readFrom, hrd, hrs1]
    rfl
  case fence | fenceI | miscMemF2 | miscMemF3 | miscMemF4 | miscMemF5 | miscMemF6 | miscMemF7
      | ecall | ebreak | wfi | mret => rfl
  all_goals
    obtain rfl := agreeBut_zero h
    rfl

/-- A word of MISC-MEM keeps its meaning whatever its bits above the opcode (R126, R270). -/
theorem exec_eq_of_opcode_miscMem (ho : fOpcode w = 0x0f#7) (hop : fOpcode w = fOpcode w') (hdec : decode w = .ok i) :
    ∃ i', decode w' = .ok i' ∧ ∀ s, exec i' s = exec i s := by
  obtain rfl : decodeMiscMem w = i := Except.ok.inj ((decode_of_opcode_miscMem ho).symm.trans hdec)
  refine ⟨_, decode_of_opcode_miscMem (hop.symm.trans ho), fun s => ?_⟩
  rw [exec_decodeMiscMem, exec_decodeMiscMem]

/-- Settles O4: the ignored bits leave the row and what the meaning reads alone, or change
one MISC-MEM row, which only advances the pc, into another. -/
theorem ignoredFieldsDoNotMatter : Obligations.IgnoredFieldsDoNotMatter := by
  intro w w' i hdec hagree
  obtain ⟨hrow, hread⟩ := decode_eq_ok_iff.1 hdec
  obtain hkey | ⟨hbits, hmask, ho⟩ := ignoredBits_disjoint i
  · have hrow' : SelectsRow w' i := (and_eq_of_submask hkey hagree).symm.trans hrow
    refine ⟨_, decode_of_selectsRow hrow', fun s => ?_⟩
    rw [← exec_readFrom_congr i hagree, hread]
  · rw [SelectsRow, hmask, agree_opcode_funct3_iff] at hrow
    rw [hbits] at hagree
    obtain ⟨hop, -⟩ := hrow
    exact exec_eq_of_opcode_miscMem (hop.trans ho) (agree_opcode_iff.1 hagree) hdec

end Sys2Proof.Machine
end

section
/-!
SUPPORT. A fetched word that is no instruction (spec/30_encoding.md R128, R131, spec/60_exceptions.md R311, R312, R320).
-/

namespace Sys2Proof.Machine

variable {s : State} {n : Nat} {w : Word}

/-- A word that matches no row decodes to no instruction (R128, R131). -/
theorem decode_error_of_no_row (h : ∀ r ∈ opcodeTable, rowMatches r w = false) : ∃ e, decode w = .error e := by
  cases hd : decode w with
  | error e => exact ⟨e, rfl⟩
  | ok i =>
    obtain ⟨r, hr, -, hmatch⟩ := rowMatches_of_decode hd
    exact absurd hmatch (by simp [h r hr])

/-- A fetched word that decodes to no instruction raises an illegal instruction in the attempt's state (R128, R312). -/
theorem step_of_illegal {e : Illegal} (hc : s.cfg.ok = true) (hs : s.status = .running) (hk : s.call = some (n + 1))
    (hf : s.fetch = .word w) (hd : decode w = .error e) :
    step s = .next ((AttemptState s n w).raise .illegalInstruction (AttemptState s n w).illegalTval) := by
  rw [step_of_attempt s hc hs hk, attemptState_eq]
  simp [State.attempt, hf, hd, runAttempt]

/-- Settles O13: the fetched word decodes to no instruction, so the attempt raises cause 2, which traps. -/
theorem illegalWordsTrap : Obligations.IllegalWordsTrap := by
  intro s n hc hs hk hpolicy hin hp w
  refine ⟨fun hno => ?_, rfl⟩
  obtain ⟨e, hd⟩ := decode_error_of_no_row hno
  exact ⟨_, step_of_illegal hc hs hk (fetch_of_aligned hin hp) hd, raise_trapResult _ _ _ hpolicy⟩

end Sys2Proof.Machine
end

section
/-!
SUPPORT. Shifts as arithmetic (spec/30_encoding.md R118, spec/42_integer_alu.md R192, R196, R197): a left shift multiplies by a
power of two modulo 2^32, a right shift divides by it, rounding down.
-/

namespace Sys2Proof.Machine

/-- The shift amount is the low five bits (R118). -/
theorem shiftAmount_eq (v : Word) : shiftAmount v = v.toNat % 32 := by
  simp [shiftAmount]

theorem shiftLeft_eq_ofNat (a : Word) (n : Nat) : a <<< n = BitVec.ofNat 32 (a.toNat * 2 ^ n) := by
  apply BitVec.eq_of_toNat_eq
  simp [Nat.shiftLeft_eq]

theorem ushiftRight_eq_ofNat (a : Word) (n : Nat) : a >>> n = BitVec.ofNat 32 (a.toNat / 2 ^ n) := by
  apply BitVec.eq_of_toNat_eq
  rw [BitVec.toNat_ushiftRight, BitVec.toNat_ofNat, Nat.shiftRight_eq_div_pow]
  exact (Nat.mod_eq_of_lt ((Nat.div_le_self _ _).trans_lt a.isLt)).symm

theorem sshiftRight_eq_ofInt (a : Word) (n : Nat) :
    a.sshiftRight n = BitVec.ofInt 32 (a.toInt / (2 ^ n : Nat)) := by
  rw [BitVec.sshiftRight, Int.shiftRight_eq_div_pow]

/-- Settles O36: each register shift retires the shift by the low five bits of the second operand. -/
theorem registerShiftResults : Obligations.RegisterShiftResults := by
  intro s rd rs1 rs2 a p
  have hamount : 2 ^ shiftAmount (s.x rs2) = p := by rw [shiftAmount_eq]
  rw [← hamount, ← shiftLeft_eq_ofNat, ← ushiftRight_eq_ofNat, ← sshiftRight_eq_ofInt]
  exact ⟨⟨_, rfl, retire_regResult s rd _⟩, ⟨_, rfl, retire_regResult s rd _⟩, ⟨_, rfl, retire_regResult s rd _⟩⟩

end Sys2Proof.Machine
end

section
/-!
SUPPORT. The example words of the spec (spec/95_test_vectors.md): each is the encoder's own word of its instruction, so the
round trip of the encoding decodes it.
-/

namespace Sys2Proof

/-- The encoder's word of a well-formed instruction decodes to that instruction. -/
theorem decode_eq_of_encode_eq {i : Instr} {w : Word} (hwf : i.WellFormed) (hw : encode i = w) : decode w = .ok i :=
  hw ▸ decodeOfEncodeIsIdentity i hwf

/-- Settles O5: each example word is the encoding of the well-formed instruction it stands for. -/
theorem specExampleWordsDecode : Obligations.SpecExampleWordsDecode := by
  refine ⟨?_, ?_, ?_, ?_, ?_, ?_, ?_, ?_, ?_, ?_, ?_, ?_, ?_⟩ <;> exact decode_eq_of_encode_eq rfl rfl

end Sys2Proof
end

section
/-!
SUPPORT. Upper immediates (spec/40_upper_immediate.md R150, R151).
-/

namespace Sys2Proof.Machine

/-- Settles O32: LUI retires its immediate, AUIPC the sum of the instruction's own pc and its immediate. -/
theorem upperImmediateResults : Obligations.UpperImmediateResults := fun s rd imm =>
  ⟨⟨s.retire rd imm, rfl, retire_regResult s rd imm⟩,
    ⟨s.retire rd (s.pc + imm), rfl, retire_regResult s rd (s.pc + imm)⟩⟩

end Sys2Proof.Machine
end

section
/-!
SUPPORT. The integer operations as arithmetic (spec/42_integer_alu.md R180 to R199): the sum and the difference are those of the
unsigned values modulo 2^32, and a set-less-than is 1 or 0 by the comparison of the signed or unsigned values.
-/

namespace Sys2Proof.Machine

/-- The difference of two words is that of their unsigned values modulo 2^32, also below 0 (R191). -/
theorem sub_eq_ofInt (a b : Word) : a - b = BitVec.ofInt 32 ((a.toNat : Int) - b.toNat) := by
  apply BitVec.eq_of_toNat_eq
  rw [BitVec.toNat_sub, BitVec.toNat_ofInt]
  omega

theorem boolWord_decide (p : Prop) [Decidable p] : boolWord (decide p) = if p then 1#32 else 0#32 := by
  by_cases h : p <;> simp [boolWord, h]

theorem boolWord_ltSigned (a b : Word) : boolWord (ltSigned a b) = if a.toInt < b.toInt then 1#32 else 0#32 :=
  boolWord_decide _

theorem boolWord_ltUnsigned (a b : Word) : boolWord (ltUnsigned a b) = if a.toNat < b.toNat then 1#32 else 0#32 :=
  boolWord_decide _

/-- An instruction whose answer is the retirement of `v` to `rd` has that as its whole effect. -/
theorem answers_of_exec_retire {i : Instr} {s : State} {rd : RegIx} {v : Word} (h : exec i s = .next (s.retire rd v)) :
    Answers i s (RegResult s · rd v) :=
  ⟨_, h, retire_regResult s rd v⟩

/-- Settles O33: each operation retires its result on `x[rs1]` and the immediate. -/
theorem registerImmediateResults : Obligations.RegisterImmediateResults := by
  intro s rd rs1 imm a
  rw [← BitVec.add_def, ← boolWord_ltSigned, ← boolWord_ltUnsigned]
  refine ⟨?addi, ?slti, ?sltiu, ?xori, ?ori, ?andi⟩ <;> exact answers_of_exec_retire rfl

/-- Settles O34: each shift retires its result on `x[rs1]` and the amount. -/
theorem immediateShiftResults : Obligations.ImmediateShiftResults := by
  intro s rd rs1 shamt a p
  rw [← shiftLeft_eq_ofNat, ← ushiftRight_eq_ofNat, ← sshiftRight_eq_ofInt]
  refine ⟨?slli, ?srli, ?srai⟩ <;> exact answers_of_exec_retire rfl

/-- Settles O35: each operation retires its result on `x[rs1]` and `x[rs2]`. -/
theorem registerRegisterResults : Obligations.RegisterRegisterResults := by
  intro s rd rs1 rs2 a b
  rw [← BitVec.add_def, ← sub_eq_ofInt, ← boolWord_ltSigned, ← boolWord_ltUnsigned]
  refine ⟨?add, ?sub, ?slt, ?sltu, ?xor, ?or, ?and⟩ <;> exact answers_of_exec_retire rfl

end Sys2Proof.Machine
end

section
/-!
SUPPORT. Multiply and divide as arithmetic (spec/43_multiply_divide.md R211 to R220): the high words are bits 63:32 of a 64-bit
product, and away from the sentinels the quotients and remainders are those of the operands' exact values, which gives R220.
-/

namespace Sys2Proof.Machine

/-! ### Products -/

/-- The low word of the product is that of the signed product, since a word is its signed value modulo 2^32 (R211). -/
theorem mulLow_eq_ofInt (a b : Word) : mulLow a b = BitVec.ofInt 32 (a.toInt * b.toInt) := by
  rw [mulLow, BitVec.ofNat_mul, BitVec.ofInt_mul, BitVec.ofNat_toNat, BitVec.ofNat_toNat, BitVec.setWidth_eq, BitVec.setWidth_eq,
    BitVec.ofInt_toInt, BitVec.ofInt_toInt]

/-- The high word of an exact product is bits 63:32 of its 64-bit two's complement form (R212). -/
theorem highWord_eq_extractLsb' (p : Int) : highWord p = (BitVec.ofInt 64 p).extractLsb' 32 32 := by
  apply BitVec.eq_of_toNat_eq
  rw [highWord, BitVec.toNat_ofInt, BitVec.extractLsb'_toNat, BitVec.toNat_ofInt, Nat.shiftRight_eq_div_pow]
  omega

/-- Zero extension is the two's complement form of the unsigned value. -/
theorem ofInt_toNat_eq_setWidth (a : Word) : BitVec.ofInt 64 (a.toNat : Int) = a.setWidth 64 := by
  rw [BitVec.ofInt_natCast, BitVec.ofNat_toNat]

/-- MULH's high word from the sign-extended operands (R212). -/
theorem mulHighSigned_eq (a b : Word) :
    mulHighSigned a b = (a.signExtend 64 * b.signExtend 64).extractLsb' 32 32 := by
  rw [mulHighSigned, highWord_eq_extractLsb', BitVec.ofInt_mul, ← BitVec.signExtend, ← BitVec.signExtend]

/-- MULHSU's high word from the sign-extended and the zero-extended operand (R213). -/
theorem mulHighSignedUnsigned_eq (a b : Word) :
    mulHighSignedUnsigned a b = (a.signExtend 64 * b.setWidth 64).extractLsb' 32 32 := by
  rw [mulHighSignedUnsigned, highWord_eq_extractLsb', BitVec.ofInt_mul, ← BitVec.signExtend, ofInt_toNat_eq_setWidth]

/-- MULHU's high word from the zero-extended operands (R214). -/
theorem mulHighUnsigned_eq (a b : Word) :
    mulHighUnsigned a b = (a.setWidth 64 * b.setWidth 64).extractLsb' 32 32 := by
  rw [mulHighUnsigned, highWord_eq_extractLsb', BitVec.ofInt_mul, ofInt_toNat_eq_setWidth, ofInt_toNat_eq_setWidth]

/-- MULHU's value is the quotient of the product by 2^32, which fits a word (R214). -/
theorem mulHighUnsigned_toNat (a b : Word) : (mulHighUnsigned a b).toNat = a.toNat * b.toNat / 2 ^ 32 := by
  have hlt : a.toNat * b.toNat < 2 ^ 32 * 2 ^ 32 := Nat.mul_lt_mul'' a.isLt b.isLt
  have hfits : a.toNat * b.toNat / 2 ^ 32 < 2 ^ 32 := Nat.div_lt_of_lt_mul hlt
  rw [mulHighUnsigned, highWord, BitVec.toNat_ofInt]
  omega

/-- The two halves of the unsigned product make the product (R220). -/
theorem mulHighUnsigned_mulLow (a b : Word) :
    (mulHighUnsigned a b).toNat * 2 ^ 32 + (mulLow a b).toNat = a.toNat * b.toNat := by
  rw [mulHighUnsigned_toNat, mulLow, BitVec.toNat_ofNat]
  exact Nat.div_add_mod' _ _

/-- Settles O37: each product retires its word. -/
theorem multiplyResults : Obligations.MultiplyResults := by
  intro s rd rs1 rs2 a b
  rw [← mulLow_eq_ofInt, ← mulHighSigned_eq, ← mulHighSignedUnsigned_eq, ← mulHighUnsigned_eq]
  refine ⟨?mul, ?mulh, ?mulhsu, ?mulhu⟩ <;> exact answers_of_exec_retire rfl

/-! ### Quotients and remainders -/

/-- Settles O38: each quotient or remainder retires, the sentinels of R219 among its cases. -/
theorem divideResults : Obligations.DivideResults := by
  intro s rd rs1 rs2 a b overflow
  refine ⟨?div, ?divu, ?rem, ?remu⟩ <;> exact answers_of_exec_retire rfl

section
variable {a b : Word}

theorem divSigned_toInt (hb : b ≠ 0#32) (ho : ¬(a = 0x80000000#32 ∧ b = 0xffffffff#32)) :
    (divSigned a b).toInt = a.toInt.tdiv b.toInt := by
  have hfits : (a.sdiv b).toInt = a.toInt.tdiv b.toInt :=
    BitVec.toInt_sdiv_of_ne_or_ne a b (not_and_or.mp ho)
  rw [divSigned, if_neg hb, if_neg ho, ← hfits, BitVec.ofInt_toInt]

theorem remSigned_toInt (hb : b ≠ 0#32) (ho : ¬(a = 0x80000000#32 ∧ b = 0xffffffff#32)) :
    (remSigned a b).toInt = a.toInt.tmod b.toInt := by
  rw [remSigned, if_neg hb, if_neg ho, ← BitVec.toInt_srem, BitVec.ofInt_toInt]

theorem divUnsigned_toNat (hb : b ≠ 0#32) : (divUnsigned a b).toNat = a.toNat / b.toNat := by
  rw [divUnsigned, if_neg hb, ← BitVec.udiv_def, BitVec.toNat_udiv]

theorem remUnsigned_toNat (hb : b ≠ 0#32) : (remUnsigned a b).toNat = a.toNat % b.toNat := by
  rw [remUnsigned, if_neg hb, ← BitVec.umod_def, BitVec.toNat_umod]

/-- The signed division identity and the bound of the remainder, the signed overflow apart (R220). -/
theorem divSigned_remSigned (hb : b ≠ 0#32) (ho : ¬(a = 0x80000000#32 ∧ b = 0xffffffff#32)) :
    (divSigned a b).toInt * b.toInt + (remSigned a b).toInt = a.toInt
      ∧ (remSigned a b).toInt.natAbs < b.toInt.natAbs := by
  have hpos : 0 < b.toInt.natAbs := Int.natAbs_pos.mpr (BitVec.toInt_ne.mpr hb)
  rw [divSigned_toInt hb ho, remSigned_toInt hb ho, Int.natAbs_tmod]
  exact ⟨Int.tdiv_mul_add_tmod _ _, Nat.mod_lt _ hpos⟩

/-- The unsigned division identity and the bound of the remainder (R220). -/
theorem divUnsigned_remUnsigned (hb : b ≠ 0#32) :
    (divUnsigned a b).toNat * b.toNat + (remUnsigned a b).toNat = a.toNat
      ∧ (remUnsigned a b).toNat < b.toNat := by
  have hpos : 0 < b.toNat := Nat.pos_of_ne_zero (BitVec.toNat_ne.mp hb)
  rw [divUnsigned_toNat hb, remUnsigned_toNat hb]
  exact ⟨Nat.div_add_mod' _ _, Nat.mod_lt _ hpos⟩

end

/-- What a multiply or divide leaves in `rd`, which is not x0 (R210). -/
theorem mulDiv_x {s t : State} {op : Word → Word → Word} {rd rs1 rs2 : RegIx} (hrd : rd ≠ 0#5)
    (h : s.mulDiv op rd rs1 rs2 = .next t) : t.x rd = op (s.x rs1) (s.x rs2) := by
  cases h
  simp [hrd]

/-- Settles O39: the identities of the operations, read off the register each instruction leaves its result in. -/
theorem divisionAndProductIdentities : Obligations.DivisionAndProductIdentities := by
  intro s q r qu ru h l rd rs1 rs2 hrd hq hr hqu hru hh hl a b
  rw [mulDiv_x hrd hq, mulDiv_x hrd hr, mulDiv_x hrd hqu, mulDiv_x hrd hru, mulDiv_x hrd hh, mulDiv_x hrd hl]
  exact ⟨divSigned_remSigned, divUnsigned_remUnsigned, mulHighUnsigned_mulLow a b⟩

end Sys2Proof.Machine
end

section
/-!
SUPPORT. Branches and jumps (spec/44_control_transfer.md R230 to R239): a branch only sets the pc, by its comparison; a jump sets
the pc and writes the return address.
-/

namespace Sys2Proof.Machine

variable {i : Instr} {s : State} {imm : Word}

/-- An instruction that branches by a comparison that decides `p` goes to `pc + imm` where `p` holds, to `pc + 4` where it
does not, and changes nothing else (R230). -/
theorem answers_of_exec_branch {taken : Bool} {p : Prop} (h : exec i s = s.branch taken imm) (hp : taken = true ↔ p) :
    Answers i s fun t => (p → t = { s with pc := s.pc + imm }) ∧ (¬p → t = { s with pc := s.pc + 4#32 }) := by
  refine ⟨_, h, fun htaken => ?_, fun hnot => ?_⟩
  · rw [if_pos (hp.2 htaken), State.setPc]
  · rw [if_neg (mt hp.1 hnot), State.setPc]

theorem ltSigned_iff (a b : Word) : ltSigned a b = true ↔ a.toInt < b.toInt := decide_eq_true_iff

theorem ltUnsigned_iff (a b : Word) : ltUnsigned a b = true ↔ a.toNat < b.toNat := decide_eq_true_iff

theorem not_ltSigned_iff (a b : Word) : (!ltSigned a b) = true ↔ b.toInt ≤ a.toInt := by
  rw [Bool.not_eq_true', ← Bool.not_eq_true, ltSigned_iff, not_lt]

theorem not_ltUnsigned_iff (a b : Word) : (!ltUnsigned a b) = true ↔ b.toNat ≤ a.toNat := by
  rw [Bool.not_eq_true', ← Bool.not_eq_true, ltUnsigned_iff, not_lt]

/-- Settles O40: each branch is taken exactly where its comparison of the operands holds. -/
theorem branchResults : Obligations.BranchResults := by
  intro s rs1 rs2 imm a b go
  refine ⟨?beq, ?bne, ?blt, ?bge, ?bltu, ?bgeu⟩
  case beq => exact answers_of_exec_branch rfl beq_iff_eq
  case bne => exact answers_of_exec_branch rfl bne_iff_ne
  case blt => exact answers_of_exec_branch rfl (ltSigned_iff a b)
  case bge => exact answers_of_exec_branch rfl (not_ltSigned_iff a b)
  case bltu => exact answers_of_exec_branch rfl (ltUnsigned_iff a b)
  case bgeu => exact answers_of_exec_branch rfl (not_ltUnsigned_iff a b)

/-- Clearing bit 0 rounds down to an even number, as a shift right and back left does (R238). -/
theorem clearBit0_eq_ofNat (a : Word) : a &&& 0xfffffffe#32 = BitVec.ofNat 32 (a.toNat / 2 * 2) := by
  have hmask : BitVec.allOnes 32 <<< 1 = 0xfffffffe#32 := by decide
  have hhalf : (a >>> 1).toNat = a.toNat / 2 := by rw [BitVec.toNat_ushiftRight, Nat.shiftRight_eq_div_pow, pow_one]
  rw [← hmask, ← BitVec.shiftLeft_ushiftRight, shiftLeft_eq_ofNat, hhalf, pow_one]

/-- An instruction that answers a jump writes the return address to `rd`, sets the pc, and changes nothing else (R237, R238). -/
theorem answers_of_exec_jump {rd : RegIx} {v target : Word} (h : exec i s = .next ((s.setX rd v).setPc target)) :
    Answers i s fun t => t = { s with xregs := t.xregs, pc := target } ∧ RegsAfter s t rd v :=
  ⟨_, h, rfl, s.setX_x rd v⟩

/-- Settles O41: each jump takes its target from the old operands, JALR with bit 0 cleared. -/
theorem jumpResults : Obligations.JumpResults := by
  intro s rd rs1 imm
  rw [← clearBit0_eq_ofNat]
  exact ⟨answers_of_exec_jump rfl, answers_of_exec_jump rfl⟩

end Sys2Proof.Machine
end

section
/-!
SUPPORT. Atomics by the region the arbiter gives (spec/45_atomics.md R250 to R264): one equation per region, LR.W, SC.W and
the nine AMOs on a RAM word, and the faults all eleven share.
-/

namespace Sys2Proof.Machine

variable {s : State} {a off : Word}

/-! ### One equation per region (R250) -/

theorem atomic_of_misaligned (h : classify s.cfg a .word = .misaligned) (effect : Word → State) :
    s.atomic a effect = .next (s.raise .storeAddressMisaligned a) := by
  simp [State.atomic, h]

theorem atomic_of_ram (h : classify s.cfg a .word = .ram off) (effect : Word → State) :
    s.atomic a effect = .next (effect off) := by
  simp [State.atomic, h]

/-- An aligned address that is no RAM word is in the window or nowhere, which is the same to an atomic. -/
theorem atomic_of_aligned_not_ram (ha : a.toNat % 4 = 0) (h : ∀ off, classify s.cfg a .word ≠ .ram off)
    (effect : Word → State) : s.atomic a effect = .next (s.raise .storeAccessFault a) := by
  obtain ⟨hmis, -⟩ | ⟨off, hram, -⟩ | ⟨-, hfault⟩ := atomic_cases s a effect
  · exact absurd ha (classify_misaligned_iff.1 hmis)
  · exact absurd hram (h off)
  · exact hfault

/-! ### The reservation (R251) -/

theorem resvOf_eq_setWidth (off : Word) : resvOf off = off.setWidth 29 :=
  (BitVec.setWidth_eq_extractLsb' (by decide)).symm

/-- Two offsets have the same reservation only where they agree below 2^29. -/
theorem resvOf_ne {off' : Word} (h : off'.toNat % 2 ^ 29 ≠ off.toNat % 2 ^ 29) : resvOf off ≠ resvOf off' := by
  intro heq
  have hnat := congrArg BitVec.toNat heq
  rw [resvOf_eq_setWidth, resvOf_eq_setWidth, BitVec.toNat_setWidth, BitVec.toNat_setWidth] at hnat
  exact h hnat.symm

/-! ### LR.W and SC.W on a RAM word (R252, R253) -/

section
variable {rd rs1 rs2 : RegIx} (aq rl : Bool)

theorem exec_lrW_of_ram (h : classify s.cfg (s.x rs1) .word = .ram off) :
    exec (.lrW rd rs1 aq rl) s
      = .next ({ s with resv := resvOf off }.retire rd (readWord s.mem (s.x rs1).toNat)) :=
  atomic_of_ram h _

theorem exec_scW_of_reserved (h : classify s.cfg (s.x rs1) .word = .ram off) (hr : s.resv = resvOf off) :
    exec (.scW rd rs1 rs2 aq rl) s
      = .next ({ s with mem := writeWord s.mem (s.x rs1).toNat (s.x rs2) }.retire rd 0#32) :=
  (atomic_of_ram h _).trans (congrArg _ (if_pos hr))

theorem exec_scW_of_not_reserved (h : classify s.cfg (s.x rs1) .word = .ram off) (hr : s.resv ≠ resvOf off) :
    exec (.scW rd rs1 rs2 aq rl) s = .next (s.retire rd 1#32) :=
  (atomic_of_ram h _).trans (congrArg _ (if_neg hr))

/-- What an LR.W of a RAM word leaves for a later SC.W: the reservation of its offset, every region and RAM (R252). -/
theorem exec_lrW_leaves {t : State} (h : classify s.cfg (s.x rs1) .word = .ram off)
    (ht : exec (.lrW rd rs1 aq rl) s = .next t) : t.resv = resvOf off ∧ t.cfg = s.cfg ∧ t.mem = s.mem := by
  rw [exec_lrW_of_ram aq rl h] at ht
  cases ht
  exact ⟨rfl, rfl, rfl⟩

end

/-- Retiring with 0 leaves 0 in `rd`, x0 or not (R31). -/
theorem retire_zero_x (s : State) (rd : RegIx) : (s.retire rd 0#32).x rd = 0#32 := by
  rcases eq_or_ne rd 0#5 with rfl | hrd
  · exact State.x_zero _
  · simp [hrd]

/-- Settles O55: the SC.W compares the reservation of its own offset with the one the LR.W left. -/
theorem lrScPair : Obligations.LrScPair := by
  intro s t rd rs1 rd' rs1' rs2' aq rl aq' rl' off off' hram ht
  obtain ⟨hresv, hcfg, hmem⟩ := exec_lrW_leaves aq rl hram ht
  constructor
  · intro ha
    rw [← ha, ← hcfg] at hram
    rw [← ha]
    exact ⟨_, exec_scW_of_reserved aq' rl' hram hresv, retire_zero_x _ rd', readWord_writeWord _ _ _⟩
  · intro hram' hoff
    have hne : t.resv ≠ resvOf off' := hresv ▸ resvOf_ne hoff
    exact ⟨_, exec_scW_of_not_reserved aq' rl' hram' hne, fun hrd => by simp [hrd], hmem⟩

/-- Settles O51: LR.W's answer on a RAM word, its four bytes least significant first. -/
theorem loadReservedResult : Obligations.LoadReservedResult := by
  intro s rd rs1 aq rl off a h
  rw [← resvOf_eq_setWidth]
  exact ⟨_, exec_lrW_of_ram aq rl h, rfl, State.retire_x _ rd _⟩

/-- Retiring after a word written to RAM is the whole effect of an atomic that writes RAM. -/
theorem answers_of_exec_writeWord {i : Instr} {rd : RegIx} {new v : Word}
    (h : exec i s = .next ({ s with mem := writeWord s.mem a.toNat new }.retire rd v)) :
    Answers i s (AtomicResult s a.toNat new rd v) :=
  ⟨_, h, rfl, ramStore_bytesStored s.mem a .word new, State.retire_x _ rd v⟩

/-- Settles O52: SC.W stores and answers 0, or only answers 1, by the comparison of the reservation. -/
theorem storeConditionalResult : Obligations.StoreConditionalResult := by
  intro s rd rs1 rs2 aq rl off a h
  rw [← resvOf_eq_setWidth]
  exact ⟨fun hr => answers_of_exec_writeWord (exec_scW_of_reserved aq rl h hr),
    fun hr => answers_of_exec_retire (exec_scW_of_not_reserved aq rl h hr)⟩

/-! ### The nine AMOs on a RAM word (R254 to R262) -/

/-- An instruction that is an AMO of `op` writes `op old x[rs2]` at `x[rs1]` and gives the old word. -/
theorem answers_of_exec_amo {i : Instr} {op : Word → Word → Word} {rd rs1 rs2 : RegIx}
    (hram : classify s.cfg (s.x rs1) .word = .ram off) (h : exec i s = s.amo op rd rs1 rs2) :
    Answers i s (AtomicResult s (s.x rs1).toNat (op (readWord s.mem (s.x rs1).toNat) (s.x rs2)) rd
      (readWord s.mem (s.x rs1).toNat)) :=
  answers_of_exec_writeWord (h.trans (atomic_of_ram hram _))

section
variable {α : Type} [LinearOrder α] {value : Word → α} {word : α → Word}

/-- Keeping the smaller of two words by their values, the old one when they tie, is the word of the smaller value. -/
theorem ite_lt_eq_min (hword : Function.LeftInverse word value) (old v : Word) :
    (if value v < value old then v else old) = word (min (value old) (value v)) := by
  split
  · next h => rw [min_eq_right h.le, hword]
  · next h => rw [min_eq_left (not_lt.1 h), hword]

theorem ite_lt_eq_max (hword : Function.LeftInverse word value) (old v : Word) :
    (if value old < value v then v else old) = word (max (value old) (value v)) := by
  split
  · next h => rw [max_eq_right h.le, hword]
  · next h => rw [max_eq_left (not_lt.1 h), hword]

end

theorem ofInt_leftInverse_toInt : Function.LeftInverse (BitVec.ofInt 32) BitVec.toInt :=
  fun _ => BitVec.ofInt_toInt

theorem ofNat_leftInverse_toNat : Function.LeftInverse (BitVec.ofNat 32) BitVec.toNat :=
  fun a => (BitVec.ofNat_toNat 32 a).trans (BitVec.setWidth_eq a)

/-- Settles O53: each AMO is the AMO of its operation, the sum and the comparisons read as arithmetic. -/
theorem atomicReadModifyWrite : Obligations.AtomicReadModifyWrite := by
  intro s rd rs1 rs2 aq rl off a v old hram
  rw [← BitVec.add_def, ← ite_lt_eq_min ofInt_leftInverse_toInt, ← ite_lt_eq_max ofInt_leftInverse_toInt,
    ← ite_lt_eq_min ofNat_leftInverse_toNat, ← ite_lt_eq_max ofNat_leftInverse_toNat]
  simp only [← ltSigned_iff, ← ltUnsigned_iff]
  refine ⟨?swap, ?add, ?xor, ?and, ?or, ?min, ?max, ?minu, ?maxu⟩
  case swap => exact answers_of_exec_amo (op := fun _ v => v) hram rfl
  case add | xor | and | or => exact answers_of_exec_amo hram rfl
  case min => exact answers_of_exec_amo (op := fun old v => if ltSigned v old then v else old) hram rfl
  case max => exact answers_of_exec_amo (op := fun old v => if ltSigned old v then v else old) hram rfl
  case minu => exact answers_of_exec_amo (op := fun old v => if ltUnsigned v old then v else old) hram rfl
  case maxu => exact answers_of_exec_amo (op := fun old v => if ltUnsigned old v then v else old) hram rfl

/-! ### The faults of every atomic (R250) -/

/-- The eleven atomics. -/
def atomicInstrs (rd rs1 rs2 : RegIx) (aq rl : Bool) : List Instr :=
  [.lrW rd rs1 aq rl, .scW rd rs1 rs2 aq rl, .amoswapW rd rs1 rs2 aq rl, .amoaddW rd rs1 rs2 aq rl,
    .amoxorW rd rs1 rs2 aq rl, .amoandW rd rs1 rs2 aq rl, .amoorW rd rs1 rs2 aq rl, .amominW rd rs1 rs2 aq rl,
    .amomaxW rd rs1 rs2 aq rl, .amominuW rd rs1 rs2 aq rl, .amomaxuW rd rs1 rs2 aq rl]

/-- Each of the eleven checks its address first. -/
theorem exec_of_mem_atomicInstrs {rd rs1 rs2 : RegIx} {aq rl : Bool} {i : Instr}
    (h : i ∈ atomicInstrs rd rs1 rs2 aq rl) (s : State) : ∃ effect, exec i s = s.atomic (s.x rs1) effect := by
  simp only [atomicInstrs, List.mem_cons, List.not_mem_nil, or_false] at h
  obtain rfl | rfl | rfl | rfl | rfl | rfl | rfl | rfl | rfl | rfl | rfl := h <;> exact ⟨_, rfl⟩

/-- Settles O54: an atomic at a bad address raises its exception and nothing else. -/
theorem atomicFaults : Obligations.AtomicFaults := by
  intro s rd rs1 rs2 aq rl i hi
  obtain ⟨effect, hexec⟩ := exec_of_mem_atomicInstrs hi s
  constructor
  · intro ha
    exact faults_of_raise (hexec.trans (atomic_of_misaligned (classify_misaligned_iff.2 ha) effect))
  · intro ha hram
    exact faults_of_raise (hexec.trans (atomic_of_aligned_not_ram ha hram effect))

end Sys2Proof.Machine
end

section
/-!
SUPPORT. The reservation and the wait latch over every instruction (spec/45_atomics.md R251, spec/10_state.md R47): of all the
effects of an instruction one reserves and one latches.
-/

namespace Sys2Proof.Machine

variable {i : Instr} {s t : State}

@[simp] theorem State.mmioStore_resv (s : State) (a v : Word) : (s.mmioStore a v).resv = s.resv := by
  obtain ⟨-, h⟩ | ⟨-, h⟩ := mmioStore_cases s a v <;> simp [h]

@[simp] theorem State.mmioStore_wfi (s : State) (a v : Word) : (s.mmioStore a v).wfi = s.wfi := by
  obtain ⟨-, h⟩ | ⟨-, h⟩ := mmioStore_cases s a v <;> simp [h]

@[simp] theorem State.sleep_resv (s : State) : s.sleep.resv = s.resv := by
  unfold State.sleep
  split <;> rfl

@[simp] theorem State.sleep_wfi (s : State) : s.sleep.wfi = s.wfi := by
  unfold State.sleep
  split <;> rfl

/-- A CSR instruction changes neither the reservation nor the latch: neither is a CSR, and a CSR hook writes only RAM. -/
theorem csrAccess_resv_wfi (s : State) (n : CsrIx) (new : Word) :
    ((s.csrRead n).csrWrite n new).resv = s.resv ∧ ((s.csrRead n).csrWrite n new).wfi = s.wfi := by
  obtain ⟨-, -, -, -, hrwfi, hrresv, -, -⟩ := csrRead_keeps s n
  obtain ⟨-, -, -, -, hwwfi, hwresv, -, -⟩ := csrWrite_keeps (s.csrRead n) n new
  exact ⟨hwresv.trans hrresv, hwwfi.trans hrwfi⟩

/-- Only the effect of LR.W writes the reservation (R251). -/
theorem InstrEffect.resv_eq (h : InstrEffect s i t) :
    t.resv = s.resv ∨ ∃ rd rs1 aq rl, i = .lrW rd rs1 aq rl := by
  cases h with
  | reserve rd rs1 aq rl => exact .inr ⟨rd, rs1, aq, rl, rfl⟩
  | csrAccess _ n new => exact .inl (csrAccess_resv_wfi s n new).1
  | retire | setPc | jump | mmioLoad | ramStore | atomicStore | trapReturn => exact .inl rfl
  | raise | mmioStore | sleep => exact .inl (by simp)

/-- Only the effect of WFI changes the latch, which it sets (R47). -/
theorem InstrEffect.wfi_eq (h : InstrEffect s i t) : t.wfi = s.wfi ∨ i = .wfi ∧ t.wfi = true := by
  cases h with
  | sleep => exact .inr ⟨rfl, by simp⟩
  | csrAccess _ n new => exact .inl (csrAccess_resv_wfi s n new).2
  | retire | setPc | jump | mmioLoad | ramStore | atomicStore | reserve | trapReturn => exact .inl rfl
  | raise | mmioStore => exact .inl (by simp)

/-- Settles O57: what an instruction answers is one of its effects. -/
theorem onlyLrReservesAndOnlyWfiLatches : Obligations.OnlyLrReservesAndOnlyWfiLatches := by
  intro i s t h
  have heff := effect_of_exec h
  exact ⟨heff.resv_eq, heff.wfi_eq⟩

end Sys2Proof.Machine
end

section
/-!
SUPPORT. The fences, the environment calls, the return from a trap and WFI (spec/46_system_csr.md R270 to R275, R283,
spec/60_exceptions.md R306, R320).
-/

namespace Sys2Proof.Machine

/-- Settles O25: ECALL raises the exception of its privilege level. -/
theorem ecallTraps : Obligations.EcallTraps := by
  intro s
  refine ⟨fun hu => faults_of_raise ?_, fun hm => faults_of_raise ?_, rfl, rfl⟩
  · exact congrArg (fun e => Host.Outcome.next (s.raise e s.pc)) (if_pos hu)
  · exact congrArg (fun e => Host.Outcome.next (s.raise e s.pc)) (if_neg hm)

/-- Settles O26: EBREAK raises its exception, whatever the privilege level. -/
theorem ebreakTraps : Obligations.EbreakTraps := fun _ => ⟨faults_of_raise rfl, rfl⟩

/-- `mstatus` after MRET by shifts: bit 7 moves to bit 3 (R275). -/
theorem mretMstatus_eq_shifts (m : Word) (p : BitVec 2) :
    mretMstatus m p = (((m >>> 7) &&& 1#32) <<< 3) ||| (p.setWidth 32 <<< 11) ||| 0x80#32 := by
  have hbit : (m >>> 7) &&& 1#32 = (BitVec.ofBool (mpieBit m)).setWidth 32 := by
    rw [BitVec.and_one_eq_setWidth_ofBool_getLsbD, BitVec.getLsbD_ushiftRight]
    rfl
  rw [hbit, mretMstatus]
  cases mpieBit m <;> rfl

/-- Settles O23: the effect is the restacking of `mstatus`, and the mask of the words is the key of MRET's row. -/
theorem mretReturns : Obligations.MretReturns := by
  constructor
  · intro s
    rw [← mretMstatus_eq_shifts]
    rfl
  · intro w hw
    have hrow : SelectsRow w .mret := hw
    exact decode_eq_ok_iff.2 ⟨hrow, rfl⟩

/-- Everything the end of a call by WFI does (R306, R307). -/
theorem sleep_eq (s : State) : s.sleep = { s with
    cycle := if s.cfg.cycleCommitOnEarlyEnd then committed s.cycle s.runCycle else s.cycle
    call := none
    events := s.events ++ [.returned .sleeping] } := by
  unfold State.sleep
  split <;> rfl

/-- Settles O27: WFI's own writes, then the end of the call. -/
theorem wfiSleeps : Obligations.WfiSleeps := by
  intro s
  have hpc : (match s.cfg.wfiResume with | .next => s.pc + 4#32 | .self => s.pc)
      = if s.cfg.wfiResume = .next then s.pc + 4#32 else s.pc := by
    cases s.cfg.wfiResume <;> rfl
  rw [← hpc]
  exact congrArg Host.Outcome.next (sleep_eq _)

/-- Settles O28: every MISC-MEM instruction is the one that only advances the pc. -/
theorem fencesOnlyAdvancePc : Obligations.FencesOnlyAdvancePc := by
  intro s fm pred succ i hi
  simp only [List.mem_cons, List.not_mem_nil, or_false] at hi
  obtain rfl | rfl | rfl | rfl | rfl | rfl | rfl | rfl := hi <;> rfl

end Sys2Proof.Machine
end

section
/-!
SUPPORT. CSR access (spec/46_system_csr.md R276 to R282): the three kinds of CSR number, what a CSR instruction answers
on each, and that the host's hooks write only the bytes of RAM they name (spec/60_exceptions.md R340).
-/

namespace Sys2Proof.Machine

/-! ### The kinds of CSR number (R38) -/

theorem coreCsr?_eq_some_iff {n : CsrIx} {k : CoreCsr} : coreCsr? n = some k ↔ (n, k) ∈ coreCsrTable := by
  constructor
  · intro h
    unfold coreCsr? at h
    split at h <;> cases h <;> decide
  · have hall : ∀ e ∈ coreCsrTable, coreCsr? e.1 = some e.2 := by decide
    exact hall (n, k)

theorem coreCsr?_eq_none {n : CsrIx} (h : ∀ k, (n, k) ∉ coreCsrTable) : coreCsr? n = none :=
  Option.eq_none_iff_forall_ne_some.2 fun k hk => h k (coreCsr?_eq_some_iff.1 hk)

/-! ### What a CSR instruction answers on each kind -/

section
variable (s : State) (f : Word → Word) (rd : RegIx) {n : CsrIx}

theorem csrOp_of_core {k : CoreCsr} (h : coreCsr? n = some k) :
    s.csrOp f rd n = .next ((s.setCsr k (f (s.getCsr k))).retire rd (s.getCsr k)) := by
  obtain ⟨hread, hvalue⟩ := csrRead_of_core s h
  rw [State.csrOp, hread, hvalue, csrWrite_of_core s h]

theorem csrOp_of_cycle :
    s.csrOp f rd csrCycle
      = .next ((s.csrHook (.csrWrite csrCycle (f s.runCycle))).retire rd s.runCycle) := rfl

theorem csrOp_of_host (h : coreCsr? n = none) (hc : n ≠ csrCycle) :
    s.csrOp f rd n = .next (((s.csrHook (.csrRead n)).csrHook (.csrWrite n (f s.reply.value))).retire rd
      s.reply.value) := by
  obtain ⟨hread, hvalue⟩ := csrRead_of_host s h hc
  rw [State.csrOp, hread, hvalue, csrWrite_of_host _ h]

end

/-! ### The bytes of RAM a hook may write (R340) -/

/-- The host's writes leave what lies outside RAM alone. -/
theorem readByte_hostWrites_of_not_inRam {c : Config} {a : Nat} (ha : inRam c a = false) (l : List Host.Cell)
    (m : Memory) : readByte (hostWrites c l m) a = readByte m a := by
  induction l generalizing m with
  | nil => rfl
  | cons e t ih =>
    obtain ⟨k, b⟩ := e
    rw [hostWrites, ih]
    split
    · next hk =>
      have hne : a ≠ k := by
        rintro rfl
        exact Bool.false_ne_true (ha.symm.trans hk)
      rw [readByte_writeByte, if_neg hne]
    · rfl

theorem hostWrites_onlyNamedRamBytes (c : Config) (l : List Host.Cell) (m : Memory) :
    OnlyNamedRamBytes c l m (hostWrites c l m) := by
  rintro a (ha | ha)
  · exact readByte_hostWrites_of_not_inRam ha l m
  · exact readByte_hostWrites_of_not_listed c l m a ha

/-- The writes of two hook calls, one after the other, are of the bytes either names. -/
theorem OnlyNamedRamBytes.trans {c : Config} {l l' : List Host.Cell} {m m' m'' : Memory}
    (h : OnlyNamedRamBytes c l m m') (h' : OnlyNamedRamBytes c l' m' m'') :
    OnlyNamedRamBytes c (l ++ l') m m'' := fun a ha =>
  (h' a (ha.imp_right fun hl e he => hl e (List.mem_append_right l he))).trans
    (h a (ha.imp_right fun hl e he => hl e (List.mem_append_left l' he)))

/-! ### The whole effect on each kind -/

/-- Retiring in a state that has the registers of `s` writes `rd` over them. -/
theorem regsAfter_retire {s t : State} (h : ∀ r, t.x r = s.x r) (rd : RegIx) (v : Word) :
    RegsAfter s (t.retire rd v) rd v := fun r => by
  rw [State.retire_x, h]

/-- Everything two CSR hook calls change, one after the other (R340). -/
theorem csrHook_csrHook_eq (s : State) (e e' : HostEvent) : (s.csrHook e).csrHook e' = { s with
    mem := hostWrites s.cfg s.popReply.reply.ram (hostWrites s.cfg s.reply.ram s.mem)
    events := s.events ++ [e, e']
    replies := s.popReply.popReply.replies
    draws := s.popReply.popReply.draws } := by
  simp [csrHook_eq (s.csrHook e) e', csrHook_reply]

theorem setCsr_x (s : State) (k : CoreCsr) (v : Word) (r : RegIx) : (s.setCsr k v).x r = s.x r := by
  cases k <;> rfl

section
variable (s : State) (f : Word → Word) (rd : RegIx) {n : CsrIx}

theorem csrOp_coreCsrResult {k : CoreCsr} (h : (n, k) ∈ coreCsrTable) :
    ∃ t, s.csrOp f rd n = .next t ∧ CoreCsrResult s rd k f t := by
  refine ⟨_, csrOp_of_core s f rd (coreCsr?_eq_some_iff.2 h), ?_⟩
  have hregs := regsAfter_retire (setCsr_x s k (f (s.getCsr k))) rd (s.getCsr k)
  cases k <;> exact ⟨rfl, hregs⟩

theorem csrOp_cycleCsrResult :
    ∃ t, s.csrOp f rd csrCycle = .next t ∧ CycleCsrResult s rd (f s.runCycle) t := by
  refine ⟨_, csrOp_of_cycle s f rd, ?_⟩
  rw [csrHook_eq]
  exact ⟨rfl, regsAfter_retire (fun _ => rfl) rd _, hostWrites_onlyNamedRamBytes s.cfg s.reply.ram s.mem⟩

theorem csrOp_hostCsrResult (h : ∀ k, (n, k) ∉ coreCsrTable) (hc : n ≠ csrCycle) :
    ∃ t, s.csrOp f rd n = .next t ∧ HostCsrResult s rd n (f s.reply.value) t := by
  refine ⟨_, csrOp_of_host s f rd (coreCsr?_eq_none h) hc, ?_⟩
  rw [csrHook_csrHook_eq]
  exact ⟨rfl, regsAfter_retire (fun _ => rfl) rd _,
    (hostWrites_onlyNamedRamBytes s.cfg s.reply.ram s.mem).trans
      (hostWrites_onlyNamedRamBytes s.cfg s.popReply.reply.ram _)⟩

end

/-- The six CSR instructions are the CSR operations of their functions, so what holds of the operation for every
function holds of each. -/
theorem csrInstrs_answers (s : State) (rd rs1 : RegIx) (z : BitVec 5) (n : CsrIx)
    (P : (Word → Word) → State → Prop) (h : ∀ f, ∃ t, s.csrOp f rd n = .next t ∧ P f t) :
    Answers (.csrrw rd rs1 n) s (P fun _ => s.x rs1)
      ∧ Answers (.csrrs rd rs1 n) s (P fun old => old ||| s.x rs1)
      ∧ Answers (.csrrc rd rs1 n) s (P fun old => old &&& ~~~(s.x rs1))
      ∧ Answers (.csrrwi rd z n) s (P fun _ => z.setWidth 32)
      ∧ Answers (.csrrsi rd z n) s (P fun old => old ||| z.setWidth 32)
      ∧ Answers (.csrrci rd z n) s (P fun old => old &&& ~~~(z.setWidth 32)) :=
  ⟨h fun _ => s.x rs1, h (· ||| s.x rs1), h (· &&& ~~~(s.x rs1)), h fun _ => zextZimm z, h (· ||| zextZimm z),
    h (· &&& ~~~(zextZimm z))⟩

/-- Settles O29: on a CSR the core keeps, each of the six is its CSR operation. -/
theorem csrInstructionsOnCoreCsrs : Obligations.CsrInstructionsOnCoreCsrs := fun s rd rs1 z n k h =>
  csrInstrs_answers s rd rs1 z n (CoreCsrResult s rd k) fun f => csrOp_coreCsrResult s f rd h

/-- Settles O30: on the running cycle value, each of the six is its CSR operation. -/
theorem csrInstructionsOnCycle : Obligations.CsrInstructionsOnCycle := fun s rd rs1 z =>
  csrInstrs_answers s rd rs1 z csrCycle (fun f => CycleCsrResult s rd (f s.runCycle)) fun f =>
    csrOp_cycleCsrResult s f rd

/-- Settles O31: on what the host's read hook answers, each of the six is its CSR operation. -/
theorem csrInstructionsOnHostCsrs : Obligations.CsrInstructionsOnHostCsrs := fun s rd rs1 z n h hc =>
  csrInstrs_answers s rd rs1 z n (fun f => HostCsrResult s rd n (f s.reply.value)) fun f =>
    csrOp_hostCsrResult s f rd h hc

end Sys2Proof.Machine
end

section
/-!
SUPPORT. The privilege level in two runs of one instruction (spec/46_system_csr.md R285, spec/60_exceptions.md R330):
every shared operation does the same at every level, but that a trap and MRET save the level in `mstatus`.
-/

namespace Sys2Proof.Machine

/-- The two states agree in every field but the privilege level and `mstatus`. -/
def AgreeButPriv (t u : State) : Prop := ∃ q m, u = { t with priv := q, mstatus := m }

/-- The two states agree also but for the cause, the run status and the host's events. -/
def AgreeButCause (t u : State) : Prop :=
  ∃ q m cause status events,
    u = { t with priv := q, mstatus := m, mcause := cause, status := status, events := events }

/-- The same state at another privilege level. -/
def State.withPriv (s : State) (p : BitVec 2) : State := { s with priv := p }

/-- Both runs answer a next state, and the two states are related by `R`. -/
def AnswersAgree (R : State → State → Prop) (a b : Answer) : Prop := ∃ t u, a = .next t ∧ b = .next u ∧ R t u

theorem AnswersAgree.of_next {R : State → State → Prop} {a b : Answer} {t u : State} (h : AnswersAgree R a b)
    (ht : a = .next t) (hu : b = .next u) : R t u := by
  obtain ⟨t', u', ht', hu', hR⟩ := h
  obtain rfl : t' = t := Host.Outcome.next.inj (ht'.symm.trans ht)
  obtain rfl : u' = u := Host.Outcome.next.inj (hu'.symm.trans hu)
  exact hR

variable (s : State) (p : BitVec 2)

/-! ### Each shared operation, at two levels -/

theorem raise_withPriv (e : Exc) (tval : Word) : AgreeButPriv (s.raise e tval) ((s.withPriv p).raise e tval) := by
  rcases hp : s.cfg.failOnAllFaults
  · rw [raise_of_trap s e tval hp, raise_of_trap (s.withPriv p) e tval hp, trapHere_eq, trapHere_eq]
    exact ⟨_, _, rfl⟩
  · rw [raise_of_abort s e tval hp, raise_of_abort (s.withPriv p) e tval hp]
    exact ⟨_, _, rfl⟩

/-- Two exceptions with one trap value differ only in the cause, and what the run's end and the host show of it. -/
theorem raise_withPriv_of_exc (e e' : Exc) (tval : Word) :
    AgreeButCause (s.raise e tval) ((s.withPriv p).raise e' tval) := by
  rcases hp : s.cfg.failOnAllFaults
  · rw [raise_of_trap s e tval hp, raise_of_trap (s.withPriv p) e' tval hp, trapHere_eq, trapHere_eq]
    exact ⟨_, _, _, _, _, rfl⟩
  · rw [raise_of_abort s e tval hp, raise_of_abort (s.withPriv p) e' tval hp]
    exact ⟨_, _, _, _, _, rfl⟩

theorem load_withPriv (w : Width) (sg : Bool) (rd : RegIx) (a : Word) :
    AnswersAgree AgreeButPriv (s.load w sg rd a) ((s.withPriv p).load w sg rd a) := by
  cases hr : classify s.cfg a w with
  | misaligned =>
    exact ⟨_, _, load_of_misaligned hr sg rd, load_of_misaligned (s := s.withPriv p) hr sg rd,
      raise_withPriv s p _ a⟩
  | ram off => exact ⟨_, _, load_of_ram hr sg rd, load_of_ram (s := s.withPriv p) hr sg rd, _, _, rfl⟩
  | mmio => exact ⟨_, _, load_of_mmio hr sg rd, load_of_mmio (s := s.withPriv p) hr sg rd, _, _, rfl⟩
  | invalid =>
    exact ⟨_, _, load_of_invalid hr sg rd, load_of_invalid (s := s.withPriv p) hr sg rd, raise_withPriv s p _ a⟩

theorem mmioStore_withPriv (a v : Word) : AgreeButPriv (s.mmioStore a v) ((s.withPriv p).mmioStore a v) := by
  by_cases hf : s.reply.value = 0#32
  · rw [mmioStore_of_zero hf, mmioStore_of_zero (s := s.withPriv p) hf]
    exact ⟨_, _, rfl⟩
  · rw [mmioStore_of_ne_zero hf, mmioStore_of_ne_zero (s := s.withPriv p) hf]
    exact ⟨_, _, rfl⟩

theorem store_withPriv (w : Width) (a v : Word) :
    AnswersAgree AgreeButPriv (s.store w a v) ((s.withPriv p).store w a v) := by
  cases hr : classify s.cfg a w with
  | misaligned =>
    exact ⟨_, _, store_of_misaligned hr v, store_of_misaligned (s := s.withPriv p) hr v, raise_withPriv s p _ a⟩
  | ram off => exact ⟨_, _, store_of_ram hr v, store_of_ram (s := s.withPriv p) hr v, _, _, rfl⟩
  | mmio => exact ⟨_, _, store_of_mmio hr v, store_of_mmio (s := s.withPriv p) hr v, mmioStore_withPriv s p a v⟩
  | invalid =>
    exact ⟨_, _, store_of_invalid hr v, store_of_invalid (s := s.withPriv p) hr v, raise_withPriv s p _ a⟩

/-- An atomic's address checks do the same at both levels, so it is enough that its effect on RAM does. -/
theorem atomic_withPriv (a : Word) {f g : Word → State} (hfg : ∀ off, AgreeButPriv (f off) (g off)) :
    AnswersAgree AgreeButPriv (s.atomic a f) ((s.withPriv p).atomic a g) := by
  unfold State.atomic
  rw [show (s.withPriv p).cfg = s.cfg from rfl]
  cases classify s.cfg a .word with
  | ram off => exact ⟨_, _, rfl, rfl, hfg off⟩
  | misaligned | mmio | invalid => exact ⟨_, _, rfl, rfl, raise_withPriv s p _ a⟩

theorem execScW_withPriv (rd rs1 rs2 : RegIx) (aq rl : Bool) :
    AnswersAgree AgreeButPriv (execScW rd rs1 rs2 aq rl s) (execScW rd rs1 rs2 aq rl (s.withPriv p)) := by
  refine atomic_withPriv s p _ fun off => ?_
  rw [show (s.withPriv p).resv = s.resv from rfl]
  split <;> exact ⟨_, _, rfl⟩

theorem csrOp_withPriv (f : Word → Word) (rd : RegIx) (n : CsrIx) :
    AnswersAgree AgreeButPriv (s.csrOp f rd n) ((s.withPriv p).csrOp f rd n) := by
  cases hk : coreCsr? n with
  | some k =>
    refine ⟨_, _, csrOp_of_core s f rd hk, csrOp_of_core (s.withPriv p) f rd hk, ?_⟩
    cases k <;> exact ⟨_, _, rfl⟩
  | none =>
    by_cases hc : n = csrCycle
    · subst hc
      exact ⟨_, _, csrOp_of_cycle s f rd, csrOp_of_cycle (s.withPriv p) f rd, _, _, rfl⟩
    · exact ⟨_, _, csrOp_of_host s f rd hk hc, csrOp_of_host (s.withPriv p) f rd hk hc, _, _, rfl⟩

theorem execWfi_withPriv : AnswersAgree AgreeButPriv (execWfi s) (execWfi (s.withPriv p)) :=
  ⟨_, _, congrArg Host.Outcome.next (sleep_eq _), congrArg Host.Outcome.next (sleep_eq _), _, _, rfl⟩

/-! ### Every instruction, at two levels -/

/-- Every instruction but ECALL answers the same at both levels, but for the level saved in `mstatus`. -/
theorem exec_withPriv {i : Instr} (hi : i ≠ .ecall) :
    AnswersAgree AgreeButPriv (exec i s) (exec i (s.withPriv p)) := by
  cases i with
  | ecall => exact absurd rfl hi
  | ebreak => exact ⟨_, _, rfl, rfl, raise_withPriv s p _ _⟩
  | lb | lh | lw | lbu | lhu => exact load_withPriv s p _ _ _ _
  | sb | sh | sw => exact store_withPriv s p _ _ _
  | scW rd rs1 rs2 aq rl => exact execScW_withPriv s p rd rs1 rs2 aq rl
  | lrW | amoswapW | amoaddW | amoxorW | amoandW | amoorW | amominW | amomaxW | amominuW | amomaxuW =>
    exact atomic_withPriv s p _ fun _ => ⟨_, _, rfl⟩
  | csrrw rd rs1 n => exact csrOp_withPriv s p (fun _ => s.x rs1) rd n
  | csrrs rd rs1 n => exact csrOp_withPriv s p (· ||| s.x rs1) rd n
  | csrrc rd rs1 n => exact csrOp_withPriv s p (· &&& ~~~(s.x rs1)) rd n
  | csrrwi rd z n => exact csrOp_withPriv s p (fun _ => zextZimm z) rd n
  | csrrsi rd z n => exact csrOp_withPriv s p (· ||| zextZimm z) rd n
  | csrrci rd z n => exact csrOp_withPriv s p (· &&& ~~~(zextZimm z)) rd n
  | wfi => exact execWfi_withPriv s p
  | lui | auipc | mret => exact ⟨_, _, rfl, rfl, _, _, rfl⟩
  | addi | slti | sltiu | xori | ori | andi | slli | srli | srai => exact ⟨_, _, rfl, rfl, _, _, rfl⟩
  | add | sub | sll | slt | sltu | xor | or | and | srl | sra => exact ⟨_, _, rfl, rfl, _, _, rfl⟩
  | mul | mulh | mulhsu | mulhu | div | divu | rem | remu => exact ⟨_, _, rfl, rfl, _, _, rfl⟩
  | beq | bne | blt | bge | bltu | bgeu | jal | jalr => exact ⟨_, _, rfl, rfl, _, _, rfl⟩
  | fence | fenceI | miscMemF2 | miscMemF3 | miscMemF4 | miscMemF5 | miscMemF6 | miscMemF7 =>
    exact ⟨_, _, rfl, rfl, _, _, rfl⟩

/-- ECALL answers the same at both levels, but for the cause of the level and what shows it (R273). -/
theorem exec_ecall_withPriv : AnswersAgree AgreeButCause (exec .ecall s) (exec .ecall (s.withPriv p)) :=
  ⟨_, _, rfl, rfl, raise_withPriv_of_exc s p _ _ _⟩

/-- Settles O59: two runs answer the same but for the level saved in `mstatus`, and for ECALL but for its cause. -/
theorem privilegeRestrictsNothing : Obligations.PrivilegeRestrictsNothing := by
  intro i s t u p ht hu
  by_cases hi : i = .ecall
  · subst hi
    obtain ⟨q, m, cause, status, events, rfl⟩ := (exec_ecall_withPriv s p).of_next ht hu
    exact ⟨by simp, fun h => absurd rfl h⟩
  · obtain ⟨q, m, rfl⟩ := (exec_withPriv s p hi).of_next ht hu
    exact ⟨by simp, fun _ => ⟨rfl, rfl, rfl⟩⟩

end Sys2Proof.Machine
end

section
/-!
SUPPORT. The bits of `mstatus` and `mip` that a trap, MRET and the timer move (spec/10_state.md R39, R41,
spec/60_exceptions.md R302, R316, spec/46_system_csr.md R275).
-/

namespace Sys2Proof.Machine

variable (m : Word) (p : BitVec 2)

/-! ### Stacking and restacking `mstatus` -/

/-- A trap moves MIE to MPIE (R316). -/
@[simp] theorem mpieBit_trapMstatus : mpieBit (trapMstatus m p) = mieBit m := by
  unfold mpieBit trapMstatus
  cases mieBit m <;> simp

/-- A trap saves the privilege level in MPP (R316). -/
@[simp] theorem mppField_trapMstatus : mppField (trapMstatus m p) = p := by
  unfold mppField trapMstatus
  have hfield : ((p.setWidth 32 <<< 11 : Word)).extractLsb' 11 2 = p := by
    revert p
    decide
  rw [BitVec.extractLsb'_or, hfield]
  cases mieBit m <;> simp

/-- MRET moves MPIE to MIE (R275). -/
@[simp] theorem mieBit_mretMstatus : mieBit (mretMstatus m p) = mpieBit m := by
  unfold mieBit mretMstatus
  cases mpieBit m <;> simp

/-- A trap taken with MIE set saves a set MPIE (R316). -/
theorem trapMstatus_of_mie (h : mieBit m = true) : trapMstatus m p = 0x80#32 ||| (p.setWidth 32 <<< 11) := by
  rw [trapMstatus, if_pos h]

/-! ### MTIP in `mip` -/

/-- MTIP's mask is bit 7 (R41). -/
theorem mtipMask_getLsbD (k : Nat) : (0x80#32).getLsbD k = decide (k = 7) := by
  have hmask : 0x80#32 = BitVec.twoPow 32 7 := by decide
  rw [hmask, BitVec.getLsbD_twoPow]
  simp [eq_comm]

/-- MTIP is what it was set to (R302). -/
theorem withMtip_getLsbD_mtip (b : Bool) : (withMtip m b).getLsbD 7 = b := by
  cases b <;> simp [withMtip]

/-- Every other bit of `mip` is kept (R302). -/
theorem withMtip_getLsbD_of_ne (b : Bool) {k : Nat} (hk : k ≠ 7) : (withMtip m b).getLsbD k = m.getLsbD k := by
  cases b with
  | true => simp [withMtip, mtipMask_getLsbD, hk]
  | false =>
    have hclear : withMtip m false = m &&& ~~~0x80#32 := rfl
    rw [hclear, BitVec.getLsbD_and, BitVec.getLsbD_not, mtipMask_getLsbD]
    simpa [hk] using BitVec.lt_of_getLsbD

end Sys2Proof.Machine
end

section
/-!
SUPPORT. Taking a trap and returning from it (spec/60_exceptions.md R316, R317, R320, R321, spec/46_system_csr.md R275).
-/

namespace Sys2Proof.Machine

/-- Settles O22: the trap entry, its `mstatus` by shifts. -/
theorem trapEntry : Obligations.TrapEntry := by
  intro s cause epc tval
  rw [← trapMstatus_eq_shifts]
  rfl

/-- Settles O24: MRET takes back from `mepc` and `mstatus` what the trap saved there. -/
theorem trapThenMretRestores : Obligations.TrapThenMretRestores := by
  intro s e v hpolicy
  rw [raise_of_trap s e v hpolicy]
  refine ⟨(s.trapHere e v).trapReturn, rfl, rfl, ?_, ?_, fun _ => rfl, rfl, rfl⟩
  · exact mppField_trapMstatus s.mstatus s.priv
  · exact (mieBit_mretMstatus _ _).trans (mpieBit_trapMstatus s.mstatus s.priv)

/-- Settles O14: each bad pc faults in the fetch, the illegal word in the decoder, and the fault aborts the run. -/
theorem fetchAndDecodeFaultsAbort : Obligations.FetchAndDecodeFaultsAbort := by
  intro s n hc hs hk hpolicy w unfetched
  have habort : ∀ e, s.fetch = .fault e → ∃ t, step s = .next t ∧ AbortResult unfetched e t := fun e hf =>
    ⟨_, step_of_fetch_fault hc hs hk hf, raise_abortResult unfetched e s.pc hpolicy⟩
  refine ⟨fun hout => habort _ (fetch_of_outside hout), fun hin hp => habort _ (fetch_of_misaligned hin hp),
    fun hin hp hno => ?_⟩
  obtain ⟨e, hd⟩ := decode_error_of_no_row hno
  exact ⟨_, step_of_illegal hc hs hk (fetch_of_aligned hin hp) hd, raise_abortResult _ _ _ hpolicy⟩

end Sys2Proof.Machine
end

section
/-!
SUPPORT. The start and the end of a step call (spec/60_exceptions.md R300 to R307): the timer comparison, the WFI gate, the
timer interrupt, and the commit with the return Normal.
-/

namespace Sys2Proof.Machine

variable {s : State} {us : Word}

/-! ### The timer (R301, R302) -/

theorem timerFires_iff {timer timermatch : BitVec 64} :
    timerFires timer timermatch = true ↔ timermatch ≠ 0#64 ∧ timermatch.toNat ≤ timer.toNat := by
  simp [timerFires]

/-- The timer advances modulo 2^64 (R301). -/
theorem tick_timer_toNat (s : State) (us : Word) :
    (s.tick us).timer.toNat = (s.timer.toNat + us.toNat) % 2 ^ 64 := by
  rw [State.tick_timer, BitVec.toNat_add, BitVec.toNat_setWidth_of_le (by decide)]

/-- Settles O18: the comparison read as arithmetic decides both MTIP and the latch. -/
theorem timerComparison : Obligations.TimerComparison := by
  intro s us t fires
  have hfires : timerFires t.timer s.timermatch = true ↔ fires := by
    rw [timerFires_iff, tick_timer_toNat]
  refine ⟨tick_timer_toNat s us, ?_, fun b hb => withMtip_getLsbD_of_ne s.mip _ hb, ?_, rfl⟩
  · rw [← hfires]
    exact Eq.congr_left (withMtip_getLsbD_mtip s.mip _)
  · rw [← hfires]
    have hwfi : t.wfi = if timerFires t.timer s.timermatch then false else s.wfi := rfl
    cases hf : timerFires t.timer s.timermatch <;> simp [hwfi, hf]

/-! ### The three ways a call starts (R303, R304) -/

theorem stepCall_of_asleep (n : Nat) (hwfi : (s.tick us).wfi = true) :
    s.stepCall us n = (s.tick us).returnCall .sleeping :=
  if_pos hwfi

theorem stepCall_of_interrupt (n : Nat) (hwfi : (s.tick us).wfi = false) (hint : (s.tick us).interruptTaken = true) :
    s.stepCall us n = ((s.tick us).startCycle.takeTrap timerInterruptCode (s.tick us).pc 0#32).returnNormal :=
  (if_neg (Bool.eq_false_iff.1 hwfi)).trans (if_pos hint)

theorem stepCall_of_no_interrupt (n : Nat) (hwfi : (s.tick us).wfi = false)
    (hint : ¬(s.tick us).interruptTaken = true) :
    s.stepCall us n = { (s.tick us).startCycle with call := some n } :=
  (if_neg (Bool.eq_false_iff.1 hwfi)).trans (if_neg hint)

/-- The interrupt is taken exactly when the three bits are 1 (R304). -/
theorem interruptTaken_iff {t : State} :
    t.interruptTaken = true ↔ t.mip.getLsbD 7 = true ∧ t.mie.getLsbD 7 = true ∧ t.mstatus.getLsbD 3 = true := by
  simp [State.interruptTaken, mtipBit, mtieBit, mieBit, and_assoc]

/-- Committing the low half of the count itself gives the count (R306). -/
theorem committed_low (cycle : BitVec 64) : committed cycle (cycle.extractLsb' 0 32) = cycle := by
  simpa using commitAddsAttempts cycle 0 (by decide)

/-- A call that has made no attempt commits the count it found (R300, R306). -/
theorem commitCycle_of_no_attempt {t : State} (h : t.runCycle = t.cycle.extractLsb' 0 32) : t.commitCycle = t := by
  have hcycle : committed t.cycle t.runCycle = t.cycle := h ▸ committed_low t.cycle
  rw [State.commitCycle, hcycle]

/-- Settles O19: the call stops at the WFI gate. -/
theorem sleepingCoreExecutesNothing : Obligations.SleepingCoreExecutesNothing := by
  intro s hc hs hk t hwfi
  rw [step_of_idle s hc hs hk, State.beginCall, stepCall_of_asleep _ hwfi]
  rfl

/-- Settles O20: the call passes the WFI gate and takes the interrupt, and commits the count it found. -/
theorem timerInterruptTaken : Obligations.TimerInterruptTaken := by
  intro s hc hs hk t hwfi hmtip hmtie hmie
  have hint : t.interruptTaken = true := interruptTaken_iff.2 ⟨hmtip, hmtie, hmie⟩
  refine ⟨_, step_of_idle s hc hs hk, ?_⟩
  rw [State.beginCall, stepCall_of_interrupt _ hwfi hint, State.returnNormal, commitCycle_of_no_attempt rfl,
    ← trapMstatus_of_mie _ _ hmie]
  rfl

/-- Settles O21: the call passes the WFI gate, takes no interrupt and enters its loop. -/
theorem callEntersLoop : Obligations.CallEntersLoop := by
  intro s hc hs hk t hwfi hbits
  have hint : ¬t.interruptTaken = true := fun h => hbits (interruptTaken_iff.1 h)
  rw [step_of_idle s hc hs hk, State.beginCall, stepCall_of_no_interrupt _ hwfi hint]
  rfl

/-! ### The end of the loop (R306) -/

/-- Settles O16: with no attempt left the step is the commit and the return. -/
theorem loopEndCommitsAndReturns : Obligations.LoopEndCommitsAndReturns := by
  intro s hc hs hk
  have hstep : step s = .next s.returnNormal := by simp [step, stepRunning, hc, hs, hk]
  exact hstep

end Sys2Proof.Machine
end

section
/-!
SUPPORT. The privilege level, `mip` and `mcause` over every instruction (spec/60_exceptions.md R302, R304, R315, R324,
R331): of all the effects of an instruction a trap and MRET change the level, and without a CSR instruction only an
exception writes `mcause`, with a code that is not the interrupt's.
-/

namespace Sys2Proof.Machine

variable {i : Instr} {s t : State}

@[simp] theorem State.mmioStore_priv (s : State) (a v : Word) : (s.mmioStore a v).priv = s.priv := by
  obtain ⟨-, h⟩ | ⟨-, h⟩ := mmioStore_cases s a v <;> simp [h]

@[simp] theorem State.mmioStore_mip (s : State) (a v : Word) : (s.mmioStore a v).mip = s.mip := by
  obtain ⟨-, h⟩ | ⟨-, h⟩ := mmioStore_cases s a v <;> simp [h]

@[simp] theorem State.mmioStore_mcause (s : State) (a v : Word) : (s.mmioStore a v).mcause = s.mcause := by
  obtain ⟨-, h⟩ | ⟨-, h⟩ := mmioStore_cases s a v <;> simp [h]

/-! ### The privilege level (R331) -/

/-- An abort keeps the level; a trap enters machine mode at the handler (R316, R320). -/
theorem raise_priv (s : State) (e : Exc) (v : Word) :
    (s.raise e v).priv = s.priv
      ∨ (s.raise e v).priv = 3#2 ∧ (s.raise e v).pc = s.mtvec ∧ (s.raise e v).mepc = s.pc := by
  rcases raise_cases s e v with h | h <;> rw [h]
  · exact .inr ⟨rfl, rfl, rfl⟩
  · exact .inl rfl

/-- The level is in no CSR, and no CSR hook writes it (R46, R340). -/
theorem csrAccess_priv (s : State) (n : CsrIx) (new : Word) : ((s.csrRead n).csrWrite n new).priv = s.priv := by
  obtain ⟨-, -, -, hread, -⟩ := csrRead_keeps s n
  obtain ⟨-, -, -, hwrite, -⟩ := csrWrite_keeps (s.csrRead n) n new
  exact hwrite.trans hread

/-- Of the effects only a trap and the return from one change the privilege level (R331). -/
theorem InstrEffect.priv_eq (h : InstrEffect s i t) :
    t.priv = s.priv ∨ (t.priv = 3#2 ∧ t.pc = s.mtvec ∧ t.mepc = s.pc) ∨ (i = .mret ∧ t.priv = mppField s.mstatus) := by
  cases h with
  | raise e v => exact (raise_priv s e v).imp_right .inl
  | trapReturn => exact .inr (.inr ⟨rfl, rfl⟩)
  | csrAccess _ n new => exact .inl (csrAccess_priv s n new)
  | retire | setPc | jump | mmioLoad | ramStore | atomicStore | reserve => exact .inl rfl
  | mmioStore => exact .inl (by simp)
  | sleep => exact .inl (by simp [sleep_eq])

/-- Settles O58: what an instruction answers is one of its effects. -/
theorem privilegeChangesOnlyByTrapOrMret : Obligations.PrivilegeChangesOnlyByTrapOrMret :=
  fun _ _ _ h => (effect_of_exec h).priv_eq

/-! ### `mip` and `mcause` (R302, R304, R315, R324) -/

/-- No exception has the code of the timer interrupt (R311, R315). -/
theorem excCode_ne_timerInterruptCode (e : Exc) : excCode e ≠ timerInterruptCode := by
  cases e <;> decide

/-- An exception leaves the interrupt's code in `mcause` only where it found it (R315, R320). -/
theorem raise_mcause (s : State) (e : Exc) (v : Word) (h : (s.raise e v).mcause = timerInterruptCode) :
    s.mcause = timerInterruptCode := by
  rcases raise_cases s e v with hr | hr <;> rw [hr] at h
  · exact absurd h (excCode_ne_timerInterruptCode e)
  · exact h

/-- No effect but a CSR access writes `mip` (R41, R302). -/
theorem InstrEffect.mip_eq (h : InstrEffect s i t) (hi : accessesCsr i = false) : t.mip = s.mip := by
  cases h with
  | csrAccess hcsr => exact absurd hcsr (by simp [hi])
  | retire | setPc | jump | mmioLoad | ramStore | atomicStore | reserve | trapReturn => rfl
  | raise | mmioStore => simp
  | sleep => simp [sleep_eq]

/-- No effect but a CSR access puts the interrupt's code into `mcause` (R304, R315). -/
theorem InstrEffect.mcause_of_interruptCode (h : InstrEffect s i t) (hi : accessesCsr i = false)
    (ht : t.mcause = timerInterruptCode) : s.mcause = timerInterruptCode := by
  cases h with
  | csrAccess hcsr => exact absurd hcsr (by simp [hi])
  | raise e v => exact raise_mcause s e v ht
  | retire | setPc | jump | mmioLoad | ramStore | atomicStore | reserve | trapReturn => exact ht
  | mmioStore => simpa using ht
  | sleep => simpa [sleep_eq] using ht

/-- The six CSR instructions are the only ones that access a CSR (R277 to R282). -/
theorem accessesCsr_eq_false (hreg : ∀ rd rs1 n, i ≠ .csrrw rd rs1 n ∧ i ≠ .csrrs rd rs1 n ∧ i ≠ .csrrc rd rs1 n)
    (himm : ∀ rd z n, i ≠ .csrrwi rd z n ∧ i ≠ .csrrsi rd z n ∧ i ≠ .csrrci rd z n) : accessesCsr i = false := by
  cases i with
  | csrrw rd rs1 n => exact absurd rfl (hreg rd rs1 n).1
  | csrrs rd rs1 n => exact absurd rfl (hreg rd rs1 n).2.1
  | csrrc rd rs1 n => exact absurd rfl (hreg rd rs1 n).2.2
  | csrrwi rd z n => exact absurd rfl (himm rd z n).1
  | csrrsi rd z n => exact absurd rfl (himm rd z n).2.1
  | csrrci rd z n => exact absurd rfl (himm rd z n).2.2
  | _ => rfl

/-- Settles O60: an instruction that is none of the six has no CSR access among its effects. -/
theorem noInterruptInsideCall : Obligations.NoInterruptInsideCall := by
  intro i s t h hreg himm
  have hi := accessesCsr_eq_false hreg himm
  have heff := effect_of_exec h
  exact ⟨heff.mip_eq hi, heff.mcause_of_interruptCode hi⟩

end Sys2Proof.Machine
end

section
/-!
SUPPORT. The state after reset (spec/70_reset_and_hazards.md R350, R353): what a register and `extraflags` hold, and that
a byte of RAM is the last one the host loaded there.
-/

namespace Sys2Proof.Machine

/-! ### The registers and `extraflags` after reset (R350) -/

/-- The state with every register 0, all else kept. -/
def State.zeroRegs (s : State) : State := { s with xregs := Vector.replicate 31 0#32 }

/-- With every register 0, each reads 0, x0 as ever (R31). -/
theorem State.zeroRegs_x (s : State) (r : RegIx) : s.zeroRegs.x r = 0#32 := by
  rw [State.x, State.zeroRegs, Vector.getElem?_replicate]
  split
  · rfl
  · split <;> rfl

/-- Reset writes x11 over registers that are all 0 (R350). -/
theorem resetWith_eq_setX (c : Config) (image : List Host.Cell) :
    State.resetWith c image = (State.resetWith c image).zeroRegs.setX 11#5 c.dtbAddr := rfl

theorem resetWith_x (c : Config) (image : List Host.Cell) (r : RegIx) :
    (State.resetWith c image).x r = if r = 11#5 then c.dtbAddr else 0#32 := by
  have hx11 : (r = 11#5 ∧ r ≠ 0#5) ↔ r = 11#5 := and_iff_left_of_imp fun h => h ▸ by decide
  rw [resetWith_eq_setX, State.setX_x, State.zeroRegs_x]
  simp only [hx11]

/-- `extraflags` after reset: machine mode, the latch clear, reservation 0 (R45, R350). -/
theorem resetWith_extraflags (c : Config) (image : List Host.Cell) : (State.resetWith c image).extraflags = 3#32 := by
  have hword : extraflagsOf 3#2 false 0#29 = 3#32 := by decide
  exact hword

/-! ### RAM after reset (R353) -/

/-- A byte of RAM reads as the last one the host wrote there, or as before where it wrote none (R340, R353). -/
theorem readByte_hostWrites_of_inRam {c : Config} {a : Nat} (ha : inRam c a = true) (l : List Host.Cell) (m : Memory) :
    readByte (hostWrites c l m) a = ((l.reverse.find? (fun e => e.1 == a)).map Prod.snd).getD (readByte m a) := by
  induction l generalizing m with
  | nil => rfl
  | cons e t ih =>
    obtain ⟨k, b⟩ := e
    rw [hostWrites, ih, List.reverse_cons, List.find?_append]
    cases t.reverse.find? (fun e => e.1 == a) with
    | some e => rfl
    | none =>
      by_cases hk : k = a
      · subst hk
        simp [ha]
      · have hkeep : readByte (if inRam c k then writeByte m k b else m) a = readByte m a := by
          split <;> simp [Ne.symm hk]
        simp [hk, hkeep]

/-- The memory after reset is canonical and lists addresses of RAM only (R71, R353). -/
theorem resetWith_memoryOk (c : Config) (image : List Host.Cell) : MemoryOk c (State.resetWith c image).mem :=
  MemoryOk.hostWrites (m := []) ⟨rfl, by simp⟩ image

/-- Settles O6: x11 is the one register written over zeros, and RAM the host's writes over an empty memory; every other
field is the value `State.resetWith` gives it. -/
theorem resetState : Obligations.ResetState := by
  intro c image
  exact ⟨resetWith_x c image, rfl, rfl, rfl, rfl, rfl, rfl, rfl, rfl, rfl, rfl, rfl, rfl, resetWith_extraflags c image,
    rfl, rfl, rfl, rfl, fun _ ha => readByte_hostWrites_of_inRam ha image []⟩

/-- Settles O7: before the first step call only RAM is left to look at, and it holds the host's writes to an empty one. -/
theorem resetMeetsInvariant : Obligations.ResetMeetsInvariant := fun c image =>
  ⟨inv_of_returned (resetWith_memoryOk c image) rfl, rfl⟩

end Sys2Proof.Machine
end
